-- ==== Sys2Proof/Word.lean ====
section
/-! DEFINITION. The plain number types of the node's fields (00_scope.md, Conventions). Bit vectors are used only for
what the manual lays out as bits or as a two's complement field: payload bytes, header fields, straps and signed
four-byte fields. Everything the manual counts is a `Nat` or an `Int`. -/

namespace Sys2Proof

/-- One payload byte of a frame (R162). -/
abbrev Byte := BitVec 8

/-- A signed four-byte field as it is carried on the bus (R163): a distance, a position, a soft limit, a home value. -/
abbrev Signed32 := BitVec 32

/-- A node address; 1..30 are addresses, 0 and 31 are not (R120). -/
abbrev Addr := Nat

/-- A move's tag, 1..65535 (R2). -/
abbrev Tag := Nat

/-- A group number, 1..62 (R25). -/
abbrev GroupNo := Nat

/-- `lo..hi`, both ends included (00_scope.md, Numbers and units). -/
def within (lo hi n : Nat) : Bool := decide (lo ≤ n) && decide (n ≤ hi)

/-- The least value of the position counter and of every signed four-byte field (R65). -/
def counterMin : Int := -2147483648

/-- The greatest value of the position counter and of every signed four-byte field (R65). -/
def counterMax : Int := 2147483647

end Sys2Proof
end

