-- ==== Sys2Proof/Syntax.lean ====
section
/-! DEFINITION. The commands of the node: one constructor of `Instr` for each row of spec/opcode_table.json, with the
row's operands, and the types those operands are written in. Requests carry their source address and request number
(R157); the fields they carry are the values read from the payload, in or out of range, since the owning rules judge
them. -/

namespace Sys2Proof

/-- The node state (R10). -/
inductive NodeState where
  | unconfigured | idle | pending | announcing | armed | running | stopping | held
  deriving DecidableEq, Repr

/-- The cause codes of R107, in the order of their codes (R163). -/
inductive Cause where
  | limit | limitActive | softLimit | range | driveAlarm | stopInput | stationStop | peerHalt
  | peerLost | peerWithdrew | rollTimeout | tagMismatch | gateVoid | gateTimeout | seekOverrun | link
  deriving DecidableEq, Repr

/-- The kind of a HALT frame, of a HALT notice and of a STOP request (R86, R103). -/
inductive HaltKind where
  | ramp | now
  deriving DecidableEq, Repr

/-- The outcome a MARK carries (R46, R49). -/
inductive MarkOutcome where
  | reached | void
  deriving DecidableEq, Repr

/-- The five local inputs (00_scope.md, Signals). -/
inductive InputName where
  | limp | limn | home | dalm | stopin
  deriving DecidableEq, Repr

/-- The two limit inputs: LIMP on the positive side, LIMN on the negative side. -/
inductive LimitSide where
  | positive | negative
  deriving DecidableEq, Repr

/-- The level of a line. -/
inductive Level where
  | low | high
  deriving DecidableEq, Repr

/-- How a rejected attempt of this node's frame came to its mark, the fourth in a row among them (R139, R140, R143, R144). -/
inductive RejectedBy where
  /-- this node's own check of the frame failed, so it asserted CHECK-REJECT itself -/
  | ownCheck
  /-- another party asserted the mark -/
  | otherParty
  /-- this node dropped out after the arbitration field, judged the rest of the frame as a listener, and a mark appeared in
  the slot: its own CHECK-REJECT if its check of the frame failed, another party's otherwise -/
  | dropOut (checkFailed : Bool)
  deriving DecidableEq, Repr

/-- One gate as a LOAD carries it (R2, R164). -/
structure GateField where
  source : Nat
  tag    : Nat
  marker : Nat
  deriving DecidableEq, Repr

/-- One marker as a LOAD carries it (R2, R164); `line` is the line's code, 0 for none (R163). -/
structure MarkerField where
  number   : Nat
  position : Nat
  line     : Nat
  deriving DecidableEq, Repr

/-- The fields of a LOAD request as read (R2, R164); `kind` is the move kind's code (R163). -/
structure LoadFields where
  tag        : Nat
  group      : Option Nat
  kind       : Nat
  slot       : Nat
  leadLength : Nat
  distance   : Signed32
  gates      : List GateField
  waitLimit  : Option Nat
  markers    : List MarkerField
  deriving DecidableEq, Repr

/-- A frame as it is read from the bus: the fields 2 to 9 of R162. -/
structure RawFrame where
  cls      : BitVec 2
  source   : BitVec 5
  destKind : BitVec 2
  destNum  : BitVec 6
  kind     : BitVec 5
  len      : BitVec 6
  payload  : List Byte
  check    : BitVec 16
  deriving DecidableEq, Repr

/-- The commands: one constructor for each row of spec/opcode_table.json. An event of the node's own that can retire a move
says whether it falls `inSlot`: within the slot of a frame that asks this node for a reply, past the position of the
ADDRESSEE-BUSY mark and before the take (R156). -/
inductive Instr where
  -- requests addressed to this node
  | configGroup (src num group : Nat) (members : List Nat)
  | configProfile (src num slot kind startRate cruiseRate rampLength : Nat)
  | configProfileTablePart (src num slot count start : Nat) (entries : List (Nat × Nat))
  | configLimits (src num : Nat) (softMin softMax : Signed32)
  | configTiming (src num beaconMs lossMs rollMs : Nat)
  | configInputs (src num limp limn home dalm stopin : Nat) (homeValue : Signed32)
  | commit (src num : Nat)
  | load (src num : Nat) (fields : LoadFields)
  | flush (src num : Nat)
  | stop (src num kind : Nat)
  | resume (src num : Nat)
  | setpos (src num : Nat) (value : Signed32)
  | scale (src num percent : Nat)
  | queryNode (src num : Nat)
  | queryGroup (src num group index : Nat)
  | queryQueue (src num index : Nat)
  | restart (src num : Nat)
  -- other frames taken from the bus
  | readyTaken (src : Nat) (group tag : Nat)
  | withdrawTaken (src : Nat) (group tag : Nat) (cause : Cause)
  | haltTaken (src : Nat) (group : Nat) (kind : HaltKind) (cause : Cause) (tag : Option Nat)
  | markTaken (src : Nat) (tag marker : Nat) (outcome : MarkOutcome)
  | groupScaleTaken (src : Nat) (group percent : Nat)
  | beaconTaken (src : Nat) (state : NodeState) (depth : Nat)
  | replyFrameTaken (src : Nat)
  | malformedFrameTaken (frame : RawFrame)
  | frameRejectedInSlot (frame : RawFrame)
  -- ends of an attempt of this node's own frame
  | ownFrameTaken
  | lostInArbitration
  | rejected (how : RejectedBy)
  | discarded (how : RejectedBy := .otherParty)
  | refusedAsBusy
  | dropped
  -- the bus, the lead and the timers
  | busIdle
  | leadStep (inSlot : Bool := false)
  | rollTimeout (inSlot : Bool := false)
  | gateWaitTimerExpires (inSlot : Bool := false)
  | silenceTimerExpires (peer : Nat) (inSlot : Bool := false)
  | beaconTimerExpires
  | listenTimerExpires
  -- the local inputs
  | limitAsserted (side : LimitSide) (inSlot : Bool := false)
  | dalmAsserted (inSlot : Bool := false)
  | stopinAsserted (inSlot : Bool := false)
  | homeAsserted (inSlot : Bool := false)
  | inputChangeInactive (input : InputName)
  -- reset, power and lines
  | resetAsserted
  | powerOn (addr : BitVec 5) (rate : BitVec 2)
  | lineLevelChange (input : InputName) (level : Level)
  | dominantBitOutsideFrame
  deriving DecidableEq, Repr

end Sys2Proof
end

