-- ==== Sys2Proof/WellFormed.lean ====
section
/-! DEFINITION. Which commands can be carried: every operand within the width its field has on the bus (R162, R163),
every list within what the frame can hold (R164, R166), every address an address (R120). A well-formed request may
still be refused: ranges that the owning rules check are left to those rules. -/

namespace Sys2Proof

/-- An address of a party: 1..30 (R120, R162). -/
def addrWf (a : Nat) : Bool := within 1 30 a

/-- One byte of a payload. -/
def byteWf (n : Nat) : Bool := decide (n < 256)

/-- A two-byte field (R163). -/
def wordWf (n : Nat) : Bool := decide (n < 65536)

/-- A three-byte field (R163). -/
def triWf (n : Nat) : Bool := decide (n < 16777216)

/-- A request's source and request number (R157). -/
def requestWf (src num : Nat) : Bool := addrWf src && byteWf num

/-- A gate as a LOAD can carry it (R164). -/
def gateFieldWf (g : GateField) : Bool := byteWf g.source && wordWf g.tag && byteWf g.marker

/-- A marker as a LOAD can carry it: number and line in four bits each (R164). -/
def markerFieldWf (m : MarkerField) : Bool := decide (m.number < 16) && decide (m.line < 16) && triWf m.position

/-- The fields of a LOAD as its layout can carry them: an absent group is sent as 0, so a present one is not 0, and the
list counts have two bits each (R163, R164). The whole payload fits 32 bytes (R135). -/
def loadFieldsWf (f : LoadFields) : Bool :=
  wordWf f.tag && (match f.group with | some g => within 1 255 g | none => true) && byteWf f.kind && byteWf f.slot &&
  triWf f.leadLength && (match f.waitLimit with | some w => wordWf w | none => true) &&
  decide (f.gates.length ≤ 3) && decide (f.markers.length ≤ 3) && f.gates.all gateFieldWf && f.markers.all markerFieldWf &&
  decide (14 + (if f.waitLimit.isSome then 2 else 0) + 4 * f.gates.length + 4 * f.markers.length ≤ 32)

/-- A raw frame carries as many payload bytes as its length says, 32 at most (R135, R140). -/
def rawWf (r : RawFrame) : Bool := decide (r.payload.length = min r.len.toNat 32)

/-- A group's number as a group-addressed frame can carry it (R162). -/
def groupDestWf (g : Nat) : Bool := within 1 62 g

/-- Well-formed commands. -/
def Instr.wf : Instr → Bool
  | .configGroup src num g ms =>
      requestWf src num && byteWf g && ms.all (fun a => decide (a < 32)) && decide ms.Nodup
  | .configProfile src num slot kind rs rc a =>
      requestWf src num && byteWf slot && byteWf kind && decide (kind ≠ 2) && triWf rs && triWf rc && wordWf a
  | .configProfileTablePart src num slot n s es =>
      requestWf src num && byteWf slot && byteWf n && byteWf s && decide (es.length ≤ 5) &&
      es.all (fun e => triWf e.1 && wordWf e.2)
  | .configLimits src num _ _ => requestWf src num
  | .configTiming src num b l r => requestWf src num && wordWf b && wordWf l && wordWf r
  | .configInputs src num a b c d e _ =>
      requestWf src num && byteWf a && byteWf b && byteWf c && byteWf d && byteWf e
  | .commit src num => requestWf src num
  | .load src num f => requestWf src num && loadFieldsWf f
  | .flush src num => requestWf src num
  | .stop src num k => requestWf src num && byteWf k
  | .resume src num => requestWf src num
  | .setpos src num _ => requestWf src num
  | .scale src num p => requestWf src num && byteWf p
  | .queryNode src num => requestWf src num
  | .queryGroup src num g i => requestWf src num && byteWf g && byteWf i
  | .queryQueue src num i => requestWf src num && byteWf i
  | .restart src num => requestWf src num
  | .readyTaken src g t => addrWf src && groupDestWf g && within 1 65535 t
  | .withdrawTaken src g t _ => addrWf src && groupDestWf g && within 1 65535 t
  | .haltTaken src g _ _ t => addrWf src && groupDestWf g && (match t with | some t => within 1 65535 t | none => true)
  | .markTaken src t m _ => addrWf src && within 1 65535 t && decide (m < 2)
  | .groupScaleTaken src g p => addrWf src && groupDestWf g && byteWf p
  | .beaconTaken src _ d => addrWf src && decide (d ≤ 16)
  | .replyFrameTaken src => addrWf src
  | .malformedFrameTaken r => rawWf r
  | .frameRejectedInSlot r => rawWf r
  | .ownFrameTaken => true
  | .lostInArbitration => true
  | .rejected _ => true
  | .discarded _ => true
  | .refusedAsBusy => true
  | .dropped => true
  | .busIdle => true
  | .leadStep _ => true
  | .rollTimeout _ => true
  | .gateWaitTimerExpires _ => true
  | .silenceTimerExpires p _ => addrWf p
  | .beaconTimerExpires => true
  | .listenTimerExpires => true
  | .limitAsserted _ _ => true
  | .dalmAsserted _ => true
  | .stopinAsserted _ => true
  | .homeAsserted _ => true
  | .inputChangeInactive _ => true
  | .resetAsserted => true
  | .powerOn _ _ => true
  | .lineLevelChange _ _ => true
  | .dominantBitOutsideFrame => true

end Sys2Proof
end

