-- ==== Sys2Proof/Decode.lean ====
section
/-! DEFINITION. `decodeTableWord` over the rows of spec/opcode_table.json that give bits. No row of this hardware's table
gives any (every row's "fields" is empty), so no word spells a command. How a frame's bits are judged and read is
Machine/FrameFormat.lean. -/

namespace Sys2Proof

/-- The command that a word spells by the table's bits: none, since no row gives bits. -/
def decodeTableWord (_nbits _w : Nat) : Option Instr := none

end Sys2Proof
end

