-- ==== Sys2Proof/Config.lean ====
section
/-! DEFINITION. What is fixed for the node: the constants the manual states, and the levels the manual leaves to the
board at power-on (notes/assumptions/1.md). No value of this manual's behaviour is left open, so there is no free value. -/

namespace Sys2Proof.Config

/-- Consecutive recessive bit times that make the bus idle (R136). -/
def idleBits : Nat := 12

/-- Rejected attempts in a row that discard the frame in hand (R144). -/
def rejectLimit : Nat := 4

/-- Busy attempts of one REPLY frame that drop it (R145). -/
def busyLimit : Nat := 16

/-- Length of a LISTEN_ONLY period in ms (R144). -/
def listenMs : Nat := 20

/-- The filter time of a local input in ms (R132). -/
def filterMs : Nat := 1

/-- Entries of the move queue (R1). -/
def queueDepth : Nat := 16

/-- Records of the mark list, and distinct marks that unstarted gates may name (R7, R51). -/
def markListDepth : Nat := 8

/-- GROUP records the Configuration Store holds (R123). -/
def groupRecords : Nat := 6

/-- The beacon interval without a TIMING record, while UNCONFIGURED, and at power-on, in ms (R119, R128). -/
def defaultBeaconMs : Nat := 20

/-- The loss time without a TIMING record, in ms (R128). -/
def defaultLossMs : Nat := 100

/-- The roll timeout without a TIMING record: none (R128). -/
def defaultRollMs : Nat := 0

/-- The greatest lead length and the greatest distance of a move (R2). -/
def maxLead : Nat := 16777215

/-- DESIGN CHOICE (notes/assumptions/1.md): the ADDR strap of `State.reset`, the one of the manual's bring-up example. -/
def resetAddr : BitVec 5 := 5

/-- DESIGN CHOICE (notes/assumptions/1.md): the RATE strap of `State.reset`, the one of the manual's bring-up example. -/
def resetRate : BitVec 2 := 2

end Sys2Proof.Config
end

