-- ==== Sys2Proof/Machine/State.lean ====
section
/-! DEFINITION. The state of the node: one structure for each of the blocks of 00_scope.md ("How the node is built"), the
output lines, the queue of waiting commands, and the state after reset. Every field is plain data. -/

namespace Sys2Proof.Machine

/-! ## The Link Controller (08_the_coordination_bus.md) -/

/-- The link state (R146). -/
inductive LinkState where
  | offline | active | listenOnly | blocked
  deriving DecidableEq, Repr

/-- The mark positions of an acknowledgment slot: true where this node drove the position dominant (R135, R140, R141). -/
structure SlotMarks where
  checkReject   : Bool
  addresseeBusy : Bool
  deriving DecidableEq, Repr

/-- The Link Controller's state (R120, R136, R143, R144, R146), with the levels of the ADDR and RATE straps it read at
power-on and the RESET line. -/
structure Link where
  /-- the link state (R146) -/
  state       : LinkState
  /-- the consecutive-reject count (R143) -/
  rejects     : Nat
  /-- the listen timer: the ms it runs for, or stopped (R144) -/
  listenTimer : Option Nat
  /-- the idle count: 12 when the bus is idle (R136) -/
  idleCount   : Nat
  /-- a frame is in progress on the bus: its start mark was seen and its slot has not ended (R136, R137) -/
  inFrame     : Bool
  /-- the marks this node drove in the last slot -/
  marks       : SlotMarks
  /-- the ADDR strap as read at the release of RESET (R120) -/
  addr        : BitVec 5
  /-- the RATE strap as read at the release of RESET (R120) -/
  rate        : BitVec 2
  /-- RESET stands asserted (R121) -/
  inReset     : Bool
  deriving DecidableEq, Repr

/-! ## Frames and the Frame Queue (09_frame_queue_and_requests.md) -/

/-- The frame classes, in falling priority (R135, R150). -/
inductive FrameClass where
  | urgent | sync | reply | beacon
  deriving DecidableEq, Repr

/-- The request kinds (R157). -/
inductive RequestKind where
  | config | commit | load | flush | stop | resume | setpos | scale | query | restart
  deriving DecidableEq, Repr

/-- The NAK reasons, in the order of R158's table. -/
inductive NakReason where
  | badFrame | badState | notConfigured | badField | tableFull | noProfile | badTiming | undefinedProfile
  | soloOnly | distanceExceedsLead | unknownGroup | duplicateTag | queueFull | gatesFull | softLimit | causePersists
  deriving DecidableEq, Repr

/-- The outcome of a retirement (R17). -/
inductive RetireOutcome where
  | complete | halted | failed
  deriving DecidableEq, Repr

/-- The retirement record (R17). -/
structure Record where
  tag      : Tag
  group    : Option GroupNo
  outcome  : RetireOutcome
  cause    : Option Cause
  progress : Nat
  pulses   : Nat
  position : Int
  deriving DecidableEq, Repr

/-- A retirement record with the origin its REPORT goes to (R2, R18). -/
structure WaitingRecord where
  origin : Addr
  record : Record
  deriving DecidableEq, Repr

/-- A set of causes, in the form it is sent in: the bit of a cause's code less 1 is set when the cause is held (R163). -/
abbrev CauseSet := BitVec 16

/-- The state of a group (R112). -/
inductive GroupState where
  | forming | whole | broken
  deriving DecidableEq, Repr

/-- A peer's presence (R108). -/
inductive Presence where
  | unseen | present | absent | unready
  deriving DecidableEq, Repr

/-- The two kinds of move (R2). -/
inductive MoveKind where
  | travel | seek
  deriving DecidableEq, Repr

/-- The contents of a STATUS for subject NODE (R159). -/
structure NodeStatus where
  state       : NodeState
  causes      : CauseSet
  holdPending : Bool
  position    : Int
  plannedEnd  : Option Int
  depth       : Nat
  headTag     : Option Tag
  /-- lead progress and current rate, when RUNNING or STOPPING -/
  motion      : Option (Nat × Nat)
  soloScale   : Nat
  link        : LinkState
  present     : Nat
  absent      : Nat
  unready     : Nat
  deriving DecidableEq, Repr

/-- One member line of a STATUS for subject GROUP (R160). -/
structure MemberLine where
  addr      : Addr
  tag       : Option Tag
  presence  : Presence
  lastState : Option NodeState
  deriving DecidableEq, Repr

/-- The contents of a STATUS for subject GROUP (R160, R164). -/
structure GroupStatus where
  group   : GroupNo
  state   : GroupState
  scale   : Nat
  members : Nat
  lines   : List MemberLine
  deriving DecidableEq, Repr

/-- One entry of a STATUS for subject QUEUE (R161). -/
structure QueueLine where
  tag       : Tag
  group     : Option GroupNo
  kind      : MoveKind
  dist      : Int
  openGates : Nat
  withdrawn : Bool
  deriving DecidableEq, Repr

/-- The contents of a STATUS for subject QUEUE (R161). -/
structure QueueStatus where
  depth : Nat
  lines : List QueueLine
  deriving DecidableEq, Repr

/-- The contents of a STATUS, by the QUERY's subject (R159 to R161). -/
inductive StatusBody where
  | node  (b : NodeStatus)
  | group (b : GroupStatus)
  | queue (b : QueueStatus)
  deriving DecidableEq, Repr

/-- The frames this node sends (R150, R164). The kind of an ACK or NAK is the kind code it echoes (R157, R168). -/
inductive OutFrame where
  | halt     (group : GroupNo) (kind : HaltKind) (cause : Cause) (tag : Tag)
  | ready    (group : GroupNo) (tag : Tag)
  | withdraw (group : GroupNo) (tag : Tag) (cause : Cause)
  | mark     (tag : Tag) (number : Nat) (outcome : MarkOutcome)
  | ack      (dest : Addr) (num : Nat) (kind : Nat) (detail : Option Nat)
  | nak      (dest : Addr) (num : Nat) (kind : Nat) (reason : NakReason)
  | status   (dest : Addr) (num : Nat) (body : StatusBody)
  | report   (dest : Addr) (record : Record)
  | beacon   (state : NodeState) (depth : Nat)
  deriving DecidableEq, Repr

/-- The status of an entry of the Frame Queue (R150). -/
inductive EntryStatus where
  | queued | inTransmission
  deriving DecidableEq, Repr

/-- One entry of the Frame Queue (R150): its frame, its status and its busy count (R143). An entry's age is its place in
the list, oldest first, since entries join at the end and keep their age; the block that queued it follows from the
frame's kind. -/
structure Entry where
  frame  : OutFrame
  status : EntryStatus
  busy   : Nat
  deriving DecidableEq, Repr

/-- The Frame Queue (R150) with the reserved REPLY entry (R156). -/
structure FrameQueue where
  entries  : List Entry
  reserved : Bool
  deriving DecidableEq, Repr

/-! ## The Configuration Store (07_configuration_and_start_up.md) -/

/-- A GROUP record (R124). -/
structure GroupRecord where
  number  : GroupNo
  members : List Addr
  deriving DecidableEq, Repr

/-- One entry of a TABLE profile: a rate and the count of climb-counter values it covers (R64). -/
structure TableEntry where
  rate  : Nat
  count : Nat
  deriving DecidableEq, Repr

/-- The kinds of profile that one record carries whole (R125). -/
inductive RampKind where
  | linear | scurve
  deriving DecidableEq, Repr

/-- What a profile slot holds (R61, R123): nothing, a LINEAR or SCURVE profile, or a TABLE of n entries of which some may
still be missing. -/
inductive Slot where
  | empty
  | ramp  (kind : RampKind) (startRate cruiseRate rampLength : Nat)
  | table (entries : List (Option TableEntry))
  deriving DecidableEq, Repr

/-- The four profile slots (R61). -/
structure Slots where
  s0 : Slot
  s1 : Slot
  s2 : Slot
  s3 : Slot
  deriving DecidableEq, Repr

/-- A LIMITS record (R127). -/
structure LimitsRecord where
  softMin : Int
  softMax : Int
  deriving DecidableEq, Repr

/-- A TIMING record, in ms (R128). -/
structure TimingRecord where
  beacon : Nat
  loss   : Nat
  roll   : Nat
  deriving DecidableEq, Repr

/-- An INPUTS record (R129). -/
structure InputsRecord where
  limp   : Level
  limn   : Level
  home   : Level
  dalm   : Level
  stopin : Level
  homeValue : Int
  deriving DecidableEq, Repr

/-- The Configuration Store (R123). -/
structure Store where
  groups    : List GroupRecord
  slots     : Slots
  limits    : Option LimitsRecord
  timing    : Option TimingRecord
  inputs    : Option InputsRecord
  committed : Bool
  deriving DecidableEq, Repr

/-! ## The Move Controller (01_move_queue_and_move_controller.md, 05_halts_holds_and_faults.md) -/

/-- A gate: the mark that must be REACHED before the move may start (R2). -/
structure Gate where
  source : Addr
  tag    : Tag
  marker : Nat
  deriving DecidableEq, Repr

/-- The two marker output lines. -/
inductive MarkerLine where
  | mko0 | mko1
  deriving DecidableEq, Repr

/-- A marker of a move (R2). -/
structure Marker where
  number   : Nat
  position : Nat
  line     : Option MarkerLine
  deriving DecidableEq, Repr

/-- An entry of the move queue (R2). -/
structure Move where
  tag         : Tag
  origin      : Addr
  group       : Option GroupNo
  kind        : MoveKind
  slot        : Nat
  lead        : Nat
  dist        : Int
  gates       : List Gate
  waitLimit   : Option Nat
  markers     : List Marker
  withdrawnBy : Bool
  deriving DecidableEq, Repr

/-- The status of a HALT notice (R93). -/
inductive NoticeStatus where
  | deferred | waiting | offered
  deriving DecidableEq, Repr

/-- What a notice says: kind, cause and tag (R93). -/
structure NoticeContent where
  kind  : HaltKind
  cause : Cause
  tag   : Tag
  deriving DecidableEq, Repr

/-- A HALT notice (R93), with the upgrade held for it while it is in transmission (R96). -/
structure Notice where
  group   : GroupNo
  content : NoticeContent
  status  : NoticeStatus
  upgrade : Option NoticeContent
  deriving DecidableEq, Repr

/-- The Move Controller's state. -/
structure MoveCtl where
  /-- the node state (R10) -/
  state          : NodeState
  /-- the move queue, head first (R1) -/
  queue          : List Move
  /-- the hold-cause set (R23) -/
  causes         : CauseSet
  /-- the hold-pending flag (R22) -/
  holdPending    : Bool
  /-- the retirement record that waits for reply room (R18) -/
  record         : Option WaitingRecord
  /-- the expiry kept for a head whose retirement is deferred (R19) -/
  deferredExpiry : Bool
  /-- the notice list (R93) -/
  notices        : List Notice
  /-- the causes kept while the READY is in transmission, first to arrive first (R42, R43) -/
  kept           : List Cause
  /-- the cause of the halt that began the descent in hand (R74) -/
  descentCause   : Option Cause
  /-- a SYNC frame was lost in the event in hand, whose LINK cause is still to be given (R155) -/
  linkDue        : Bool
  deriving DecidableEq, Repr

/-! ## The Roll Unit, the Gate Unit and the Peer Table (02, 03 and 06) -/

/-- One roll entry: a member and the tag it has announced, if any (R28). -/
structure RollEntry where
  addr : Addr
  tag  : Option Tag
  deriving DecidableEq, Repr

/-- An entry of the group table (R25); the member set is the addresses of the roll, in ascending order. -/
structure GroupEntry where
  number : GroupNo
  state  : GroupState
  roll   : List RollEntry
  scale  : Nat
  deriving DecidableEq, Repr

/-- The Roll Unit: the group table (R25) and the roll timeout (R36), with the ms it runs for. -/
structure RollUnit where
  groups : List GroupEntry
  timer  : Option Nat
  deriving DecidableEq, Repr

/-- A record of the mark list (R51). -/
structure MarkRecord where
  source  : Addr
  tag     : Tag
  marker  : Nat
  outcome : MarkOutcome
  deriving DecidableEq, Repr

/-- The tag and the unreached markers of the move in hand (R46). -/
structure HeldMarkers where
  tag       : Tag
  unreached : List Marker
  deriving DecidableEq, Repr

/-- The Gate Unit: the mark list (R51), the gate wait timer (R56), the markers of the move in hand (R46). -/
structure GateUnit where
  marks : List MarkRecord
  timer : Option Nat
  held  : Option HeldMarkers
  deriving DecidableEq, Repr

/-- An entry of the Peer Table (R108); the silence timer is the ms it runs for, or stopped. -/
structure PeerEntry where
  addr      : Addr
  presence  : Presence
  lastState : Option NodeState
  timer     : Option Nat
  deriving DecidableEq, Repr

/-- The Peer Table and its beacon timer (R108, R118). -/
structure PeerTable where
  peers       : List PeerEntry
  beaconTimer : Option Nat
  deriving DecidableEq, Repr

/-! ## The Lead Generator and the Input Conditioner (04 and 07) -/

/-- The phase of the lead (R65). -/
inductive Phase where
  | stopped | run | descent
  deriving DecidableEq, Repr

/-- The kinds of lead step (R68). -/
inductive StepKind where
  | climb | hold | descent
  deriving DecidableEq, Repr

/-- The pending step: its kind, and its rate, whose reciprocal in seconds is its interval (R69). -/
structure PendingStep where
  kind : StepKind
  rate : Nat
  deriving DecidableEq, Repr

/-- The Lead Generator's state (R65); the current rate is the pending step's rate (R69). -/
structure Lead where
  phase     : Phase
  p         : Nat
  c         : Nat
  cap       : Option Nat
  step      : Option PendingStep
  acc       : Nat
  pulses    : Nat
  position  : Int
  soloScale : Nat
  deriving DecidableEq, Repr

/-- The levels DIR takes (R76). -/
inductive Direction where
  | forward | reverse
  deriving DecidableEq, Repr

/-- The output lines (00_scope.md, Signals). STEP is a pulse and not a level, so what is held of it is the number of
pulses it has made since power-on (notes/assumptions/2.md). -/
structure Outputs where
  stepPulses : Nat
  dir        : Direction
  dren       : Bool
  mko0       : Bool
  mko1       : Bool
  deriving DecidableEq, Repr

/-- The filtered level of an input (R132). -/
inductive Filtered where
  | unsettled | low | high
  deriving DecidableEq, Repr

/-- A local input: the level of its line, its filtered level, and whether its filter time runs (R132). -/
structure Input where
  line      : Level
  filtered  : Filtered
  filtering : Bool
  deriving DecidableEq, Repr

/-- The Input Conditioner (R132). -/
structure Inputs where
  limp   : Input
  limn   : Input
  home   : Input
  dalm   : Input
  stopin : Input
  deriving DecidableEq, Repr

/-! ## The whole -/

/-- The state of the node. -/
structure State where
  link    : Link
  fq      : FrameQueue
  store   : Store
  mc      : MoveCtl
  roll    : RollUnit
  gate    : GateUnit
  peer    : PeerTable
  lead    : Lead
  out     : Outputs
  inp     : Inputs
  /-- the commands that wait, first in, first out (the model's own field) -/
  pending : List Instr
  deriving DecidableEq, Repr

/-- Faults: none. The manual names no event at which the node stops without a next state, so no meaning raises one and
the type has no constructor. -/
inductive Fault where
  deriving DecidableEq, Repr

/-- Refusals. -/
inductive Refusal where
  /-- the command has no meaning yet: raised by an arm of `exec` only; safe, since nothing is claimed of it -/
  | notModelled (mnemonic : String)
  deriving DecidableEq, Repr

/-! ## Power-on -/

/-- No mark driven. -/
def SlotMarks.none : SlotMarks := { checkReject := false, addresseeBusy := false }

/-- The Link Controller right after the release of RESET, with the straps it read (R120, R121, R143, R146). -/
def Link.powerOn (addr : BitVec 5) (rate : BitVec 2) : Link :=
  { state := .offline, rejects := 0, listenTimer := .none, idleCount := 0, inFrame := false,
    marks := SlotMarks.none, addr, rate, inReset := false }

/-- The Frame Queue at power-on: empty (R150). -/
def FrameQueue.powerOn : FrameQueue := { entries := [], reserved := false }

/-- The Configuration Store at power-on: no record, every slot EMPTY, the flag clear (R123). -/
def Store.powerOn : Store :=
  { groups := [], slots := { s0 := .empty, s1 := .empty, s2 := .empty, s3 := .empty }, limits := none, timing := none,
    inputs := none, committed := false }

/-- The Move Controller at power-on (R24, R93). -/
def MoveCtl.powerOn : MoveCtl :=
  { state := .unconfigured, queue := [], causes := 0, holdPending := false, record := none, deferredExpiry := false,
    notices := [], kept := [], descentCause := none, linkDue := false }

/-- The Roll Unit at power-on: the group table empty (R25). -/
def RollUnit.powerOn : RollUnit := { groups := [], timer := none }

/-- The Gate Unit at power-on (R60). -/
def GateUnit.powerOn : GateUnit := { marks := [], timer := none, held := none }

/-- The Peer Table at power-on: empty, the beacon timer stopped (R108, R119). -/
def PeerTable.powerOn : PeerTable := { peers := [], beaconTimer := none }

/-- The Lead Generator at power-on (R65), at a position: 0 at power-on, kept at RESTART. -/
def Lead.powerOn (position : Int) : Lead :=
  { phase := .stopped, p := 0, c := 0, cap := none, step := none, acc := 0, pulses := 0, position, soloScale := 100 }

/-- The output lines at power-on: DREN, MKO0 and MKO1 inactive, DIR forward, no pulse made (R121). -/
def Outputs.powerOn : Outputs := { stepPulses := 0, dir := .forward, dren := false, mko0 := false, mko1 := false }

/-- An input at power-on and after RESTART: UNSETTLED, its filter time started afresh, whatever the line's level (R132). -/
def Input.unsettled (line : Level) : Input := { line, filtered := .unsettled, filtering := true }

/-- Every input UNSETTLED, with the lines at the levels they have (R132). -/
def Inputs.unsettled (i : Inputs) : Inputs :=
  { limp := Input.unsettled i.limp.line, limn := Input.unsettled i.limn.line, home := Input.unsettled i.home.line,
    dalm := Input.unsettled i.dalm.line, stopin := Input.unsettled i.stopin.line }

/-- The power-on state of every block (R121), with the straps as read, the input lines as they stand and the commands
that wait. -/
def State.powerOn (addr : BitVec 5) (rate : BitVec 2) (inp : Inputs) (pending : List Instr) : State :=
  { link := Link.powerOn addr rate, fq := FrameQueue.powerOn, store := Store.powerOn, mc := MoveCtl.powerOn,
    roll := RollUnit.powerOn, gate := GateUnit.powerOn, peer := PeerTable.powerOn, lead := Lead.powerOn 0,
    out := Outputs.powerOn, inp := inp.unsettled, pending }

/-- The input lines at `State.reset`. DESIGN CHOICE (notes/assumptions/1.md): every line HIGH, the inactive level of the
default active-low inputs. -/
def Inputs.reset : Inputs :=
  { limp := Input.unsettled .high, limn := Input.unsettled .high, home := Input.unsettled .high,
    dalm := Input.unsettled .high, stopin := Input.unsettled .high }

/-- The node right after reset: RESET released, the straps read, every block in its power-on state (R121), no command
waiting. -/
def State.reset : State := State.powerOn Config.resetAddr Config.resetRate Inputs.reset []

end Sys2Proof.Machine
end

