-- ==== Sys2Proof/Machine/Update.lean ====
section
/-! DEFINITION. One update for each block of the state: each changes its own block and no other. Every operation of the
machine changes the state through these. -/

namespace Sys2Proof.Machine

/-- Change the Link Controller. -/
def State.updLink (s : State) (f : Link → Link) : State := { s with link := f s.link }

/-- Change the Frame Queue. -/
def State.updFq (s : State) (f : FrameQueue → FrameQueue) : State := { s with fq := f s.fq }

/-- Change the Configuration Store. -/
def State.updStore (s : State) (f : Store → Store) : State := { s with store := f s.store }

/-- Change the Move Controller. -/
def State.updMc (s : State) (f : MoveCtl → MoveCtl) : State := { s with mc := f s.mc }

/-- Change the Roll Unit. -/
def State.updRoll (s : State) (f : RollUnit → RollUnit) : State := { s with roll := f s.roll }

/-- Change the Gate Unit. -/
def State.updGate (s : State) (f : GateUnit → GateUnit) : State := { s with gate := f s.gate }

/-- Change the Peer Table. -/
def State.updPeer (s : State) (f : PeerTable → PeerTable) : State := { s with peer := f s.peer }

/-- Change the Lead Generator. -/
def State.updLead (s : State) (f : Lead → Lead) : State := { s with lead := f s.lead }

/-- Change the output lines. -/
def State.updOut (s : State) (f : Outputs → Outputs) : State := { s with out := f s.out }

/-- Change the Input Conditioner. -/
def State.updInp (s : State) (f : Inputs → Inputs) : State := { s with inp := f s.inp }

end Sys2Proof.Machine
end

