-- ==== Sys2Proof/Machine/Flags.lean ====
section
/-! DEFINITION. The flags the rules read: membership in the hold-cause set (R23), the asserted state of an input (R132),
and the settings in effect, which are the committed records or the defaults (R128, R129, R131, R133). -/

namespace Sys2Proof

/-! ## What the node state says of the head -/

/-- The head is announced: ANNOUNCING or ARMED (R33). -/
def NodeState.announced : NodeState → Bool
  | .announcing => true | .armed => true | _ => false

/-- The head has started: RUNNING or STOPPING (R10). -/
def NodeState.moving : NodeState → Bool
  | .running => true | .stopping => true | _ => false

/-- The other level. -/
def Level.other : Level → Level
  | .low => .high | .high => .low

end Sys2Proof

namespace Sys2Proof.Machine

/-! ## The hold-cause set -/

/-- The code of a cause (R163). -/
def causeCode : Cause → Nat
  | .limit => 1 | .limitActive => 2 | .softLimit => 3 | .range => 4 | .driveAlarm => 5 | .stopInput => 6
  | .stationStop => 7 | .peerHalt => 8 | .peerLost => 9 | .peerWithdrew => 10 | .rollTimeout => 11
  | .tagMismatch => 12 | .gateVoid => 13 | .gateTimeout => 14 | .seekOverrun => 15 | .link => 16

/-- A set of causes holds a cause (R23, R163). -/
def holdsCause (cs : CauseSet) (c : Cause) : Bool := cs.getLsbD (causeCode c - 1)

/-- A set of causes with one added; a cause already held is not added twice (R23). -/
def withCause (cs : CauseSet) (c : Cause) : CauseSet := cs ||| BitVec.twoPow 16 (causeCode c - 1)

/-- Add a cause to the hold-cause set (R106). -/
def State.addCause (c : Cause) (s : State) : State := s.updMc fun m => { m with causes := withCause m.causes c }

/-- Add several causes to the hold-cause set (R43). -/
def State.addCauses : List Cause → State → State
  | [], s => s
  | c :: cs, s => (s.addCause c).addCauses cs

/-- Add a cause and enter HELD, the queue kept (R92, R97, R103). -/
def State.hold (c : Cause) (s : State) : State := (s.addCause c).updMc fun m => { m with state := .held }

/-! ## Settings in effect -/

/-- This node's address (R120). -/
def State.self (s : State) : Addr := s.link.addr.toNat

/-- The address is one of a node: an ADDR strap of 0 or 31 is not (R120). -/
def Link.addrValid (l : Link) : Bool := within 1 30 l.addr.toNat

/-- The bit rate of the bus in bits per second, by the RATE strap (R120). -/
def Link.bitRate (l : Link) : Nat :=
  if l.rate = 0 then 250000 else if l.rate = 1 then 500000 else if l.rate = 2 then 1000000 else 2000000

/-- The timing of a node without a TIMING record (R128). -/
def defaultTiming : TimingRecord :=
  { beacon := Config.defaultBeaconMs, loss := Config.defaultLossMs, roll := Config.defaultRollMs }

/-- The timing a COMMIT would use: the TIMING record or the defaults (R128, R130). -/
def Store.timingOrDefault (c : Store) : TimingRecord := c.timing.getD defaultTiming

/-- The timing in effect: the committed values, and the defaults while UNCONFIGURED (R119, R131). -/
def State.timing (s : State) : TimingRecord := if s.store.committed then s.store.timingOrDefault else defaultTiming

/-- The soft limits in effect (R127). -/
def State.softLimits (s : State) : Option LimitsRecord := if s.store.committed then s.store.limits else none

/-- The home value in effect: 0 without an INPUTS record and before COMMIT (R129, R134). -/
def State.homeValue (s : State) : Int :=
  if s.store.committed then (match s.store.inputs with | some r => r.homeValue | none => 0) else 0

/-- The level an INPUTS record gives an input. -/
def InputsRecord.level (r : InputsRecord) : InputName → Level
  | .limp => r.limp | .limn => r.limn | .home => r.home | .dalm => r.dalm | .stopin => r.stopin

/-- The active level in use for an input: active-low but for a committed INPUTS record (R133). -/
def State.activeLevel (s : State) (i : InputName) : Level :=
  if s.store.committed then (match s.store.inputs with | some r => r.level i | none => .low) else .low

/-! ## The inputs -/

/-- One input of the Input Conditioner. -/
def Inputs.get (x : Inputs) : InputName → Input
  | .limp => x.limp | .limn => x.limn | .home => x.home | .dalm => x.dalm | .stopin => x.stopin

/-- Change one input of the Input Conditioner. -/
def Inputs.set (x : Inputs) (i : InputName) (v : Input) : Inputs :=
  match i with
  | .limp => { x with limp := v }
  | .limn => { x with limn := v }
  | .home => { x with home := v }
  | .dalm => { x with dalm := v }
  | .stopin => { x with stopin := v }

/-- The filtered level that a registered line level gives. -/
def Filtered.ofLevel : Level → Filtered
  | .low => .low | .high => .high

/-- An input is asserted when its filtered level is its active level; UNSETTLED is not asserted (R132). -/
def State.asserted (s : State) (i : InputName) : Bool :=
  decide ((s.inp.get i).filtered = Filtered.ofLevel (s.activeLevel i))

/-- Register a level of an input: the line has held it for the filter time, and it becomes the filtered level (R132). -/
def State.register (i : InputName) (l : Level) (s : State) : State :=
  s.updInp fun x => x.set i { line := l, filtered := Filtered.ofLevel l, filtering := false }

/-- The limit input on a side. -/
def limitInput : LimitSide → InputName
  | .positive => .limp | .negative => .limn

/-- A limit on this side lies in the direction of a distance (R82). -/
def limitAhead (side : LimitSide) (dist : Int) : Bool :=
  match side with
  | .positive => decide (0 < dist)
  | .negative => decide (dist < 0)

end Sys2Proof.Machine
end

