-- ==== Sys2Proof/Machine/FrameQueue.lean ====
section
/-! DEFINITION. The Frame Queue's own operations: shares, queueing, the entry in transmission, removal and change in
place, and the choice of the entry that is offered (R150 to R156). -/

namespace Sys2Proof.Machine

/-- The class of a frame (R150). -/
def OutFrame.cls : OutFrame → FrameClass
  | .halt .. => .urgent
  | .ready .. => .sync
  | .withdraw .. => .sync
  | .mark .. => .sync
  | .ack .. => .reply
  | .nak .. => .reply
  | .status .. => .reply
  | .report .. => .reply
  | .beacon .. => .beacon

/-- The share of a class (R150). -/
def share : FrameClass → Nat
  | .urgent => 1 | .sync => 6 | .reply => 4 | .beacon => 1

/-- How many entries of a class the queue holds, queued or in transmission. -/
def FrameQueue.count (q : FrameQueue) (k : FrameClass) : Nat := q.entries.countP fun e => decide (e.frame.cls = k)

/-- The free count of the REPLY share: 4, less the entries held, less the entry reserved (R156). -/
def FrameQueue.free (q : FrameQueue) : Nat := share .reply - q.count .reply - (if q.reserved then 1 else 0)

/-- The entry in transmission, if any (R137). -/
def FrameQueue.sending (q : FrameQueue) : Option Entry := q.entries.find? fun e => decide (e.status = .inTransmission)

/-- A new entry of a frame: queued, the youngest of all, busy count 0 (R143, R150). -/
def FrameQueue.push (q : FrameQueue) (f : OutFrame) : FrameQueue :=
  { q with entries := q.entries ++ [{ frame := f, status := .queued, busy := 0 }] }

/-- The entry in transmission returns to queued and keeps its age (R153). -/
def FrameQueue.requeue (q : FrameQueue) : FrameQueue :=
  { q with entries := q.entries.map fun e => { e with status := .queued } }

/-- The entry in transmission leaves the queue (R153). -/
def FrameQueue.endSending (q : FrameQueue) : FrameQueue :=
  { q with entries := q.entries.filter fun e => decide (e.status ≠ .inTransmission) }

/-- The busy count of the entry in transmission rises by 1 (R145). -/
def FrameQueue.countBusy (q : FrameQueue) : FrameQueue :=
  { q with entries := q.entries.map fun e => if e.status = .inTransmission then { e with busy := e.busy + 1 } else e }

/-- Remove the queued entries of the frames picked; one in transmission cannot be removed (R154). -/
def FrameQueue.removeQueued (q : FrameQueue) (pick : OutFrame → Bool) : FrameQueue :=
  { q with entries := q.entries.filter fun e => !(decide (e.status = .queued) && pick e.frame) }

/-- A HALT to group `g`. -/
def OutFrame.isHaltFor (g : GroupNo) : OutFrame → Bool
  | .halt g' _ _ _ => decide (g' = g)
  | _ => false

/-- A READY: this node's own. -/
def OutFrame.isReady : OutFrame → Bool
  | .ready .. => true
  | _ => false

/-- A WITHDRAW of group `g` and tag `t`. -/
def OutFrame.isWithdrawOf (g : GroupNo) (t : Tag) : OutFrame → Bool
  | .withdraw g' t' _ => decide (g' = g) && decide (t' = t)
  | _ => false

/-- Change in place what the queued HALT to group `g` says; its age is kept (R94, R154). -/
def FrameQueue.changeHalt (q : FrameQueue) (g : GroupNo) (n : NoticeContent) : FrameQueue :=
  { q with entries := q.entries.map fun e =>
      if e.status = .queued ∧ e.frame.isHaltFor g = true then { e with frame := .halt g n.kind n.cause n.tag } else e }

/-- The HALT to group `g` is in transmission. -/
def FrameQueue.haltSending (q : FrameQueue) (g : GroupNo) : Bool :=
  match q.sending with
  | some e => e.frame.isHaltFor g
  | none => false

/-- A READY of this node is in transmission (R42). -/
def FrameQueue.readySending (q : FrameQueue) : Bool :=
  match q.sending with
  | some e => e.frame.isReady
  | none => false

/-- The queue holds a queued entry of the class. -/
def FrameQueue.hasQueued (q : FrameQueue) (k : FrameClass) : Bool :=
  q.entries.any fun e => decide (e.status = .queued) && decide (e.frame.cls = k)

/-- The lowest class of which an entry is queued (R152). -/
def FrameQueue.lowestClass (q : FrameQueue) : Option FrameClass :=
  if q.hasQueued .urgent then some .urgent
  else if q.hasQueued .sync then some .sync
  else if q.hasQueued .reply then some .reply
  else if q.hasQueued .beacon then some .beacon
  else none

/-- The BEACON that is begun carries the node state and queue depth of that instant (R118). -/
def OutFrame.refreshed (st : NodeState) (depth : Nat) : OutFrame → OutFrame
  | .beacon _ _ => .beacon st depth
  | f => f

/-- The oldest queued entry of class `k` goes into transmission (R137, R152). -/
def beginOldest (k : FrameClass) (st : NodeState) (depth : Nat) : List Entry → List Entry
  | [] => []
  | e :: es =>
    if e.status = .queued ∧ e.frame.cls = k then
      { e with status := .inTransmission, frame := e.frame.refreshed st depth } :: es
    else e :: beginOldest k st depth es

/-! ## Queueing, seen from the state -/

/-- Queue a frame. -/
def State.push (f : OutFrame) (s : State) : State := s.updFq fun q => q.push f

/-- Queue a SYNC frame; with the share full it is lost, and the LINK cause is due (R151, R155). -/
def State.queueSync (f : OutFrame) (s : State) : State :=
  if s.fq.count .sync < share .sync then s.push f else s.updMc fun m => { m with linkDue := true }

/-- Remove this node's own READY if it is queued (R34, R41, R91). -/
def State.removeReady (s : State) : State := s.updFq fun q => q.removeQueued OutFrame.isReady

/-- Offer: with the link ACTIVE, the bus idle, an entry queued and none in transmission, the oldest queued entry of the
lowest class is begun, and its start mark ends the idle and puts a frame in progress (R136, R137, R152). -/
def State.offer (s : State) : State :=
  if s.link.state = .active ∧ s.link.idleCount = Config.idleBits ∧ s.fq.sending = none then
    match s.fq.lowestClass with
    | some k =>
      (s.updFq fun q => { q with entries := beginOldest k s.mc.state s.mc.queue.length q.entries }).updLink
        fun l => { l with idleCount := 0, inFrame := true, marks := SlotMarks.none }
    | none => s
  else s

/-- A frame has been on the bus up to its slot, in which this node drove the marks given: no frame is in progress, and the
idle count runs afresh from the end of the slot (R136). -/
def State.afterSlot (m : SlotMarks) (s : State) : State :=
  s.updLink fun l => { l with idleCount := 0, inFrame := false, marks := m }

end Sys2Proof.Machine
end

