-- ==== Sys2Proof/Machine/FrameFormat.lean ====
section
/-! DEFINITION. The wire: codes, the check, the frames this node sends as they are laid out, and how a frame read from the
bus is judged and read (R162 to R168). -/

namespace Sys2Proof.Machine

/-! ## Codes (R162, R163) -/

/-- The frame kind code of a request kind (R162). -/
def RequestKind.code : RequestKind → Nat
  | .config => 0x08 | .commit => 0x09 | .load => 0x0A | .flush => 0x0B | .stop => 0x0C | .resume => 0x0D
  | .setpos => 0x0E | .query => 0x0F | .restart => 0x10 | .scale => 0x05

/-- The code of a node state (R163). -/
def nodeStateCode : NodeState → Nat
  | .unconfigured => 0 | .idle => 1 | .pending => 2 | .announcing => 3 | .armed => 4 | .running => 5
  | .stopping => 6 | .held => 7

/-- The node state of a code (R163). -/
def nodeStateOf : Nat → Option NodeState
  | 0 => some .unconfigured | 1 => some .idle | 2 => some .pending | 3 => some .announcing | 4 => some .armed
  | 5 => some .running | 6 => some .stopping | 7 => some .held | _ => none

/-- The cause of a code (R163). -/
def causeOf : Nat → Option Cause
  | 1 => some .limit | 2 => some .limitActive | 3 => some .softLimit | 4 => some .range | 5 => some .driveAlarm
  | 6 => some .stopInput | 7 => some .stationStop | 8 => some .peerHalt | 9 => some .peerLost
  | 10 => some .peerWithdrew | 11 => some .rollTimeout | 12 => some .tagMismatch | 13 => some .gateVoid
  | 14 => some .gateTimeout | 15 => some .seekOverrun | 16 => some .link | _ => none

/-- The code of a NAK reason: 0x01..0x10 in the order of R158 (R163). -/
def nakCode : NakReason → Nat
  | .badFrame => 1 | .badState => 2 | .notConfigured => 3 | .badField => 4 | .tableFull => 5 | .noProfile => 6
  | .badTiming => 7 | .undefinedProfile => 8 | .soloOnly => 9 | .distanceExceedsLead => 10 | .unknownGroup => 11
  | .duplicateTag => 12 | .queueFull => 13 | .gatesFull => 14 | .softLimit => 15 | .causePersists => 16

/-- The code of a HALT or STOP kind (R163). -/
def haltKindCode : HaltKind → Nat
  | .ramp => 0 | .now => 1

/-- The HALT or STOP kind of a code; no other code names one (R103, R163, R167). -/
def haltKindOf : Nat → Option HaltKind
  | 0 => some .ramp | 1 => some .now | _ => none

/-- The code of a MARK outcome (R163). -/
def markOutcomeCode : MarkOutcome → Nat
  | .reached => 0 | .void => 1

/-- The MARK outcome of a code (R163, R167). -/
def markOutcomeOf : Nat → Option MarkOutcome
  | 0 => some .reached | 1 => some .void | _ => none

/-- The code of a REPORT outcome (R163). -/
def outcomeCode : RetireOutcome → Nat
  | .complete => 0 | .halted => 1 | .failed => 2

/-- The code of a link state; OFFLINE is never reported (R159, R163). -/
def linkCode : LinkState → Nat
  | .offline => 0 | .active => 1 | .listenOnly => 2 | .blocked => 3

/-- The code of a group state (R163). -/
def groupStateCode : GroupState → Nat
  | .forming => 0 | .whole => 1 | .broken => 2

/-- The code of a presence (R163). -/
def presenceCode : Presence → Nat
  | .unseen => 0 | .present => 1 | .absent => 2 | .unready => 3

/-- The code of a class (R135). -/
def classCode : FrameClass → Nat
  | .urgent => 0 | .sync => 1 | .reply => 2 | .beacon => 3

/-- The active level of a code; no other code names one (R129, R163). -/
def levelOf : Nat → Option Level
  | 0 => some .low | 1 => some .high | _ => none

/-- The code of a flag. -/
def flagCode (b : Bool) : Nat := if b then 1 else 0

/-! ## Numbers in a payload (R163) -/

/-- A number as `k` bytes, most significant byte first (R163). -/
def numBytes : Nat → Nat → List Byte
  | 0, _ => []
  | k + 1, n => BitVec.ofNat 8 (n / 256 ^ k) :: numBytes k n

/-- A signed number as `k` bytes in two's complement, most significant byte first (R163). -/
def intBytes (k : Nat) (n : Int) : List Byte := numBytes k (n.emod (256 ^ k)).toNat

/-- Byte `i` of a payload. -/
def RawFrame.byte (r : Sys2Proof.RawFrame) (i : Nat) : Nat := (r.payload.getD i 0).toNat

/-- The number in the `k` bytes from byte `i` on, most significant byte first (R163). -/
def RawFrame.num (r : Sys2Proof.RawFrame) (i : Nat) : Nat → Nat
  | 0 => 0
  | k + 1 => RawFrame.byte r i * 256 ^ k + RawFrame.num r (i + 1) k

/-- The signed four-byte number from byte `i` on (R163). -/
def RawFrame.signed (r : Sys2Proof.RawFrame) (i : Nat) : Signed32 := BitVec.ofNat 32 (RawFrame.num r i 4)

/-! ## The check (R162) -/

/-- The bits of a number's field, most significant bit first (R162). -/
def msbFirst {w : Nat} (x : BitVec w) : List Bool := (List.range w).map fun i => x.getMsbD i

/-- The bits the check is computed over: fields 2 to 8, in sending order (R162). -/
def RawFrame.checkedBits (r : Sys2Proof.RawFrame) : List Bool :=
  msbFirst r.cls ++ msbFirst r.source ++ msbFirst r.destKind ++ msbFirst r.destNum ++ msbFirst r.kind ++ msbFirst r.len ++
  r.payload.flatMap msbFirst

/-- One bit of the check: combined with the top bit, and after the shift the register is combined with 0x1021 if that
was 1 (R162). -/
def checkStep (reg : BitVec 16) (b : Bool) : BitVec 16 :=
  if reg.msb != b then (reg <<< 1) ^^^ 0x1021 else reg <<< 1

/-- The check of a frame: the register starts at 0xFFFF (R162). -/
def RawFrame.computedCheck (r : Sys2Proof.RawFrame) : BitVec 16 := (RawFrame.checkedBits r).foldl checkStep 0xFFFF

/-- A frame's check passes at this node: the length is 32 at most, the payload has that length, and the computed check is
the one read (R140). -/
def RawFrame.checkPasses (r : Sys2Proof.RawFrame) : Bool :=
  decide (r.len.toNat ≤ 32) && decide (r.payload.length = r.len.toNat) && decide (RawFrame.computedCheck r = r.check)

/-- The bit times a frame occupies, from its start mark to its end mark (R162). -/
def RawFrame.bitTimes (r : Sys2Proof.RawFrame) : Nat := 1 + 2 + 5 + 2 + 6 + 5 + 6 + 8 * r.payload.length + 16 + 2 + 1

/-! ## A frame bit by bit (R135, R140, R162) -/

/-- What the bus carries in one bit time (R135). -/
inductive BusLevel where
  | dominant | recessive
  deriving DecidableEq, Repr

/-- The level a bit is sent as: a 0 bit dominant (R135, R162). -/
def bitLevel (b : Bool) : BusLevel := if b then .recessive else .dominant

/-- The bit a level is read as. -/
def BusLevel.bit : BusLevel → Bool
  | .dominant => false
  | .recessive => true

/-- A mark position: recessive unless a party asserts the mark (R135, R162). -/
def markLevel (asserted : Bool) : BusLevel := if asserted then .dominant else .recessive

/-- The bits of fields 2 to 9, in sending order, the check last (R162). -/
def RawFrame.fieldBits (r : Sys2Proof.RawFrame) : List Bool := RawFrame.checkedBits r ++ msbFirst r.check

/-- A frame as the bus carries it, from its start mark to its end mark, with the marks asserted in its slot: the dominant start
mark, fields 2 to 9, the CHECK-REJECT position, the ADDRESSEE-BUSY position, and the recessive end mark (R135, R162). -/
def RawFrame.onBus (r : Sys2Proof.RawFrame) (slot : SlotMarks) : List BusLevel :=
  .dominant :: (RawFrame.fieldBits r).map bitLevel ++
    [markLevel slot.checkReject, markLevel slot.addresseeBusy, .recessive]

/-- The number of some bits, the most significant first (R162). -/
def ofMsbFirst (bs : List Bool) : Nat := bs.foldl (fun n b => 2 * n + b.toNat) 0

/-- The first `k` bytes of some bits (R162). -/
def bytesOf : Nat → List Bool → List Byte
  | 0, _ => []
  | k + 1, bs => BitVec.ofNat 8 (ofMsbFirst (bs.take 8)) :: bytesOf k (bs.drop 8)

/-- A frame as a listener reads it from the bus, field by field from the bit after its start mark; a length above 32 places
the check and the slot as a length of 32 does (R140, R162). -/
def RawFrame.ofBus (levels : List BusLevel) : Sys2Proof.RawFrame :=
  let bits := (levels.drop 1).map BusLevel.bit
  let field := fun (start width : Nat) => ofMsbFirst ((bits.drop start).take width)
  let bytes := min (field 20 6) 32
  { cls := BitVec.ofNat 2 (field 0 2), source := BitVec.ofNat 5 (field 2 5), destKind := BitVec.ofNat 2 (field 7 2),
    destNum := BitVec.ofNat 6 (field 9 6), kind := BitVec.ofNat 5 (field 15 5), len := BitVec.ofNat 6 (field 20 6),
    payload := bytesOf bytes (bits.drop 26), check := BitVec.ofNat 16 (field (26 + 8 * bytes) 16) }

/-! ## The frames this node sends (R164) -/

/-- An optional number whose absence is sent as 0 (R163). -/
def orZero (n : Option Nat) : Nat := n.getD 0

/-- The payload of a REPORT (R164). -/
def reportPayload (r : Record) : List Byte :=
  numBytes 2 r.tag ++ numBytes 1 (orZero r.group) ++ numBytes 1 (outcomeCode r.outcome) ++
  numBytes 1 (match r.cause with | some c => causeCode c | none => 0) ++ numBytes 3 r.progress ++ numBytes 3 r.pulses ++
  intBytes 4 r.position

/-- The contents of a STATUS for subject NODE, from byte 2 on (R164). -/
def nodePayload (b : NodeStatus) : List Byte :=
  numBytes 1 (nodeStateCode b.state) ++ numBytes 2 b.causes.toNat ++
  numBytes 1 (flagCode b.holdPending + 2 * flagCode b.plannedEnd.isSome + 4 * flagCode b.headTag.isSome +
    8 * flagCode b.motion.isSome) ++
  intBytes 4 b.position ++ intBytes 5 (b.plannedEnd.getD 0) ++ numBytes 1 b.depth ++ numBytes 2 (orZero b.headTag) ++
  numBytes 3 (match b.motion with | some m => m.1 | none => 0) ++
  numBytes 3 (match b.motion with | some m => m.2 | none => 0) ++ numBytes 1 b.soloScale ++
  numBytes 1 (linkCode b.link) ++ numBytes 1 b.present ++ numBytes 1 b.absent ++ numBytes 1 b.unready

/-- One line of a STATUS for subject GROUP (R164). -/
def linePayload (l : MemberLine) : List Byte :=
  numBytes 1 l.addr ++ numBytes 2 (orZero l.tag) ++
  numBytes 1 (presenceCode l.presence + 4 * flagCode l.lastState.isSome +
    16 * (match l.lastState with | some st => nodeStateCode st | none => 0))

/-- The contents of a STATUS for subject GROUP, from byte 2 on (R164). -/
def groupPayload (b : GroupStatus) : List Byte :=
  numBytes 1 b.group ++ numBytes 1 (groupStateCode b.state) ++ numBytes 1 b.scale ++ numBytes 1 b.members ++
  numBytes 1 b.lines.length ++ b.lines.flatMap linePayload

/-- One entry of a STATUS for subject QUEUE (R164). -/
def entryPayload (l : QueueLine) : List Byte :=
  numBytes 2 l.tag ++ numBytes 1 (orZero l.group) ++ intBytes 4 l.dist ++
  numBytes 1 ((match l.kind with | .travel => 0 | .seek => 1) + 2 * l.openGates + 8 * flagCode l.withdrawn)

/-- The contents of a STATUS for subject QUEUE, from byte 2 on (R164). -/
def queuePayload (b : QueueStatus) : List Byte :=
  numBytes 1 b.depth ++ numBytes 1 b.lines.length ++ b.lines.flatMap entryPayload

/-- The payload of a frame this node sends (R164). -/
def OutFrame.payload : OutFrame → List Byte
  | .halt _ k c t => numBytes 1 (haltKindCode k) ++ numBytes 1 (causeCode c) ++ numBytes 2 t
  | .ready _ t => numBytes 2 t
  | .withdraw _ t c => numBytes 2 t ++ numBytes 1 (causeCode c)
  | .mark t n o => numBytes 2 t ++ numBytes 1 n ++ numBytes 1 (markOutcomeCode o)
  | .ack _ n k d => numBytes 1 n ++ numBytes 1 k ++ (match d with | some x => numBytes 1 x | none => [])
  | .nak _ n k r => numBytes 1 n ++ numBytes 1 k ++ numBytes 1 (nakCode r)
  | .status _ n (.node b) => numBytes 1 n ++ numBytes 1 0 ++ nodePayload b
  | .status _ n (.group b) => numBytes 1 n ++ numBytes 1 1 ++ groupPayload b
  | .status _ n (.queue b) => numBytes 1 n ++ numBytes 1 2 ++ queuePayload b
  | .report _ r => reportPayload r
  | .beacon st d => numBytes 1 (nodeStateCode st) ++ numBytes 1 d

/-- The frame kind code of a frame this node sends (R162). -/
def OutFrame.kindCode : OutFrame → Nat
  | .ready .. => 0x01 | .withdraw .. => 0x02 | .halt .. => 0x03 | .mark .. => 0x04 | .beacon .. => 0x06
  | .ack .. => 0x18 | .nak .. => 0x19 | .status .. => 0x1A | .report .. => 0x1B

/-- The destination of a frame this node sends: its kind's code and its number (R135, R164). -/
def OutFrame.dest : OutFrame → Nat × Nat
  | .halt g _ _ _ => (1, g)
  | .ready g _ => (1, g)
  | .withdraw g _ _ => (1, g)
  | .mark .. => (2, 0)
  | .beacon .. => (2, 0)
  | .ack a _ _ _ => (0, a)
  | .nak a _ _ _ => (0, a)
  | .status a _ _ => (0, a)
  | .report a _ => (0, a)

/-- A raw frame with its check computed (R162). -/
def RawFrame.sealed (r : Sys2Proof.RawFrame) : Sys2Proof.RawFrame := { r with check := RawFrame.computedCheck r }

/-- A frame as this node puts it on the bus from its address (R135, R162, R164). -/
def OutFrame.raw (self : Addr) (f : OutFrame) : Sys2Proof.RawFrame :=
  RawFrame.sealed
    { cls := BitVec.ofNat 2 (classCode f.cls), source := BitVec.ofNat 5 self, destKind := BitVec.ofNat 2 f.dest.1,
      destNum := BitVec.ofNat 6 f.dest.2, kind := BitVec.ofNat 5 f.kindCode, len := BitVec.ofNat 6 f.payload.length,
      payload := f.payload, check := 0 }

/-- The frame that this node sends, bit by bit, while one of its entries is in transmission, with the marks asserted in its
slot (R135, R137, R162). -/
def State.onBus (s : State) (slot : SlotMarks) : Option (List BusLevel) :=
  s.fq.sending.map fun e => RawFrame.onBus (e.frame.raw s.self) slot

/-! ## Judging a received frame (R149, R165 to R167) -/

/-- The codes 0x08..0x10: every request kind but SCALE (R157, R162). -/
def isRequestCode (k : Nat) : Bool := within 0x08 0x10 k

/-- The kind is that of a reply: ACK, NAK, STATUS or REPORT (R162). -/
def isReplyCode (k : Nat) : Bool := within 0x18 0x1B k

/-- The kind is one of the kinds the node knows (R162). -/
def isKnownCode (k : Nat) : Bool := within 0x01 0x06 k || isRequestCode k || isReplyCode k

/-- The destination is valid: NODE 1..30, GROUP 1..62, ALL 0 (R149, R165). -/
def RawFrame.destValid (r : Sys2Proof.RawFrame) : Bool :=
  match r.destKind.toNat with
  | 0 => within 1 30 r.destNum.toNat
  | 1 => within 1 62 r.destNum.toNat
  | 2 => decide (r.destNum.toNat = 0)
  | _ => false

/-- The destination kind fits the frame kind (R149, R165). -/
def RawFrame.destFits (r : Sys2Proof.RawFrame) : Bool :=
  match r.kind.toNat with
  | 0x01 => decide (r.destKind.toNat = 1)
  | 0x02 => decide (r.destKind.toNat = 1)
  | 0x03 => decide (r.destKind.toNat = 1)
  | 0x04 => decide (r.destKind.toNat = 2)
  | 0x05 => decide (r.destKind.toNat ≠ 2)
  | 0x06 => decide (r.destKind.toNat = 2)
  | _ => decide (r.destKind.toNat = 0)

/-- The length of a LOAD by its byte 13: gate count, marker count and wait-limit flag as read (R164, R166). -/
def loadLength (lists : Nat) : Nat := 14 + 2 * (lists / 16 % 2) + 4 * (lists % 4) + 4 * (lists / 4 % 4)

/-- The payload length fits the layout; an unknown code in a byte that decides the layout ends the layout there (R166). -/
def RawFrame.lengthFits (r : Sys2Proof.RawFrame) : Bool :=
  let n := r.payload.length
  match r.kind.toNat with
  | 0x01 => decide (n = 2)
  | 0x02 => decide (n = 3)
  | 0x03 => decide (n = 2) || decide (n = 4)
  | 0x04 => decide (n = 4)
  | 0x05 => if r.destKind.toNat = 1 then decide (n = 1) else decide (n = 2)
  | 0x06 => decide (n = 2)
  | 0x08 => -- CONFIG
    match RawFrame.byte r 1 with
    | 1 => decide (n = 7)
    | 2 =>
      match RawFrame.byte r 3 with
      | 0 => decide (n = 12)
      | 1 => decide (n = 12)
      | 2 => decide (7 ≤ n) && decide (n = 7 + 5 * RawFrame.byte r 6)
      | _ => decide (4 ≤ n)
    | 3 => decide (n = 10)
    | 4 => decide (n = 8)
    | 5 => decide (n = 11)
    | _ => decide (2 ≤ n)
  | 0x09 => decide (n = 1)
  | 0x0A => decide (14 ≤ n) && decide (n = loadLength (RawFrame.byte r 13))
  | 0x0B => decide (n = 1)
  | 0x0C => decide (n = 2)
  | 0x0D => decide (n = 1)
  | 0x0E => decide (n = 5)
  | 0x0F => -- QUERY
    match RawFrame.byte r 1 with
    | 0 => decide (n = 2)
    | 1 => decide (n = 4)
    | 2 => decide (n = 3)
    | _ => decide (2 ≤ n)
  | 0x10 => decide (n = 1)
  | _ => false

/-- The values of a frame of coordination lie in their ranges; of any other frame they are not judged here (R167). -/
def RawFrame.valuesFit (r : Sys2Proof.RawFrame) : Bool :=
  match r.kind.toNat with
  | 0x01 => decide (RawFrame.num r 0 2 ≠ 0)
  | 0x02 => decide (RawFrame.num r 0 2 ≠ 0) && (causeOf (RawFrame.byte r 2)).isSome
  | 0x03 =>
    (haltKindOf (RawFrame.byte r 0)).isSome && (causeOf (RawFrame.byte r 1)).isSome &&
    (decide (r.payload.length ≠ 4) || decide (RawFrame.num r 2 2 ≠ 0))
  | 0x04 =>
    decide (RawFrame.num r 0 2 ≠ 0) && decide (RawFrame.byte r 2 < 2) && (markOutcomeOf (RawFrame.byte r 3)).isSome
  | 0x06 => (nodeStateOf (RawFrame.byte r 0)).isSome && decide (RawFrame.byte r 1 ≤ 16)
  | _ => true

/-- The case of R165 that makes a frame malformed, the first in order; a reply is judged by the first four only. -/
def RawFrame.malformedCase (r : Sys2Proof.RawFrame) : Option Nat :=
  if !within 1 30 r.source.toNat then some 1
  else if !RawFrame.destValid r then some 2
  else if !isKnownCode r.kind.toNat then some 3
  else if !RawFrame.destFits r then some 4
  else if isReplyCode r.kind.toNat then none
  else if !RawFrame.lengthFits r then some 5
  else if !RawFrame.valuesFit r then some 6
  else none

/-- The frame is addressed to this node and its kind is not a reply's: the frames of the busy rule (R141, R149). -/
def RawFrame.asksReply (r : Sys2Proof.RawFrame) (self : Addr) : Bool :=
  decide (r.destKind.toNat = 0) && decide (r.destNum.toNat = self) && !isReplyCode r.kind.toNat

/-! ## Reading a well-formed frame (R163, R164, R166) -/

/-- `k` gates from byte `i` on (R164). -/
def gatesAt (r : Sys2Proof.RawFrame) (i : Nat) : Nat → List GateField
  | 0 => []
  | k + 1 =>
    { source := RawFrame.byte r i, tag := RawFrame.num r (i + 1) 2, marker := RawFrame.byte r (i + 3) } :: gatesAt r (i + 4) k

/-- `k` markers from byte `i` on (R164). -/
def markersAt (r : Sys2Proof.RawFrame) (i : Nat) : Nat → List MarkerField
  | 0 => []
  | k + 1 =>
    { number := RawFrame.byte r i / 16, line := RawFrame.byte r i % 16, position := RawFrame.num r (i + 1) 3 } ::
      markersAt r (i + 4) k

/-- `k` table entries from byte `i` on: rate (3 bytes) and count (2 bytes) (R166). -/
def entriesAt (r : Sys2Proof.RawFrame) (i : Nat) : Nat → List (Nat × Nat)
  | 0 => []
  | k + 1 => (RawFrame.num r i 3, RawFrame.num r (i + 3) 2) :: entriesAt r (i + 5) k

/-- A field whose value 0 means absent (R163). -/
def zeroAbsent (n : Nat) : Option Nat := if n = 0 then none else some n

/-- The fields of a LOAD (R164). -/
def RawFrame.loadFields (r : Sys2Proof.RawFrame) : LoadFields :=
  let lists := RawFrame.byte r 13
  let wait := lists / 16 % 2
  { tag := RawFrame.num r 1 2, group := zeroAbsent (RawFrame.byte r 3), kind := RawFrame.byte r 4, slot := RawFrame.byte r 5,
    leadLength := RawFrame.num r 6 3, distance := RawFrame.signed r 9,
    waitLimit := if wait = 1 then some (RawFrame.num r 14 2) else none,
    gates := gatesAt r (14 + 2 * wait) (lists % 4),
    markers := markersAt r (14 + 2 * wait + 4 * (lists % 4)) (lists / 4 % 4) }

/-- The addresses of a member set sent as a 32-bit number, in ascending order (R163). -/
def memberList (n : Nat) : List Addr := (List.range 32).filter fun a => n.testBit a

/-- What a frame read from the bus is at this node. -/
inductive Reading where
  /-- malformed, by this case of R165 -/
  | malformed (case : Nat)
  /-- the command it stands for -/
  | command (i : Instr)
  /-- a CONFIG request of a record type outside the five (R123, R166) -/
  | unknownRecord (src num : Nat)
  /-- a QUERY request of a subject outside the three (R159, R166) -/
  | unknownSubject (src num : Nat)
  deriving DecidableEq, Repr

/-- A CONFIG request (R124 to R129, R166); a profile kind outside the three is read as far as its kind. -/
def RawFrame.readConfig (r : Sys2Proof.RawFrame) (src num : Nat) : Reading :=
  match RawFrame.byte r 1 with
  | 1 => .command (.configGroup src num (RawFrame.byte r 2) (memberList (RawFrame.num r 3 4)))
  | 2 =>
    match RawFrame.byte r 3 with
    | 2 => .command (.configProfileTablePart src num (RawFrame.byte r 2) (RawFrame.byte r 4) (RawFrame.byte r 5)
        (entriesAt r 7 (RawFrame.byte r 6)))
    | k => .command (.configProfile src num (RawFrame.byte r 2) k (RawFrame.num r 4 3) (RawFrame.num r 7 3)
        (RawFrame.num r 10 2))
  | 3 => .command (.configLimits src num (RawFrame.signed r 2) (RawFrame.signed r 6))
  | 4 => .command (.configTiming src num (RawFrame.num r 2 2) (RawFrame.num r 4 2) (RawFrame.num r 6 2))
  | 5 => .command (.configInputs src num (RawFrame.byte r 2) (RawFrame.byte r 3) (RawFrame.byte r 4) (RawFrame.byte r 5)
      (RawFrame.byte r 6) (RawFrame.signed r 7))
  | _ => .unknownRecord src num

/-- A QUERY request (R159 to R161, R166). -/
def RawFrame.readQuery (r : Sys2Proof.RawFrame) (src num : Nat) : Reading :=
  match RawFrame.byte r 1 with
  | 0 => .command (.queryNode src num)
  | 1 => .command (.queryGroup src num (RawFrame.byte r 2) (RawFrame.byte r 3))
  | 2 => .command (.queryQueue src num (RawFrame.byte r 2))
  | _ => .unknownSubject src num

/-- A request addressed to this node (R157, R164, R166). -/
def RawFrame.readRequest (r : Sys2Proof.RawFrame) (src : Nat) : Reading :=
  let num := RawFrame.byte r 0
  match r.kind.toNat with
  | 0x05 => .command (.scale src num (RawFrame.byte r 1))
  | 0x08 => RawFrame.readConfig r src num
  | 0x09 => .command (.commit src num)
  | 0x0A => .command (.load src num (RawFrame.loadFields r))
  | 0x0B => .command (.flush src num)
  | 0x0C => .command (.stop src num (RawFrame.byte r 1))
  | 0x0D => .command (.resume src num)
  | 0x0E => .command (.setpos src num (RawFrame.signed r 1))
  | 0x0F => RawFrame.readQuery r src num
  | 0x10 => .command (.restart src num)
  | _ => .command (.replyFrameTaken src)

/-- A well-formed frame of coordination (R164, R167). -/
def RawFrame.readCoordination (r : Sys2Proof.RawFrame) (src : Nat) : Instr :=
  let g := r.destNum.toNat
  match r.kind.toNat with
  | 0x01 => .readyTaken src g (RawFrame.num r 0 2)
  | 0x02 => .withdrawTaken src g (RawFrame.num r 0 2) ((causeOf (RawFrame.byte r 2)).getD .link)
  | 0x03 => .haltTaken src g ((haltKindOf (RawFrame.byte r 0)).getD .now) ((causeOf (RawFrame.byte r 1)).getD .link)
      (if r.payload.length = 4 then some (RawFrame.num r 2 2) else none)
  | 0x04 => .markTaken src (RawFrame.num r 0 2) (RawFrame.byte r 2) ((markOutcomeOf (RawFrame.byte r 3)).getD .void)
  | 0x05 => .groupScaleTaken src g (RawFrame.byte r 0)
  | 0x06 => .beaconTaken src ((nodeStateOf (RawFrame.byte r 0)).getD .unconfigured) (RawFrame.byte r 1)
  | _ => .replyFrameTaken src

/-- A frame whose check passed, judged and read at the node of address `self`: a reply, or a frame for another node, acts
at the Peer Table only (R142, R149, R165). -/
def RawFrame.read (r : Sys2Proof.RawFrame) (self : Addr) : Reading :=
  match RawFrame.malformedCase r with
  | some n => .malformed n
  | none =>
    let src := r.source.toNat
    if r.destKind.toNat = 0 then
      if RawFrame.asksReply r self then RawFrame.readRequest r src else .command (.replyFrameTaken src)
    else .command (RawFrame.readCoordination r src)

/-- The request number that a NAK BAD_FRAME echoes: the first payload byte, or 0 without one (R168). -/
def RawFrame.echoNumber (r : Sys2Proof.RawFrame) : Nat := RawFrame.byte r 0

end Sys2Proof.Machine
end

