-- ==== Sys2Proof/Machine/Gates.lean ====
section
/-! DEFINITION. The Gate Unit: gates and the mark list, the gate wait timer, and the markers of the move in hand with the
marker outputs (R46 to R57). -/

namespace Sys2Proof.Machine

/-- The entries that have not started: all of the queue, or all but the head when the head has started (R2, R51). -/
def State.unstarted (s : State) : List Move := if s.mc.state.moving then s.mc.queue.tail else s.mc.queue

/-- A gate names a record: their (source, tag, marker) are equal (R51). -/
def Gate.names (g : Gate) (r : MarkRecord) : Bool :=
  decide (g.source = r.source) && decide (g.tag = r.tag) && decide (g.marker = r.marker)

/-- A record is named by a gate of one of these entries (R51). -/
def namedBy (ms : List Move) (r : MarkRecord) : Bool := ms.any fun m => m.gates.any fun g => g.names r

/-- The records that a gate of one of these entries still names (R53). -/
def keepNamed (ms : List Move) (marks : List MarkRecord) : List MarkRecord := marks.filter (namedBy ms)

/-- A gate is satisfied: the list holds a REACHED record that it names (R54). -/
def Gate.satisfied (marks : List MarkRecord) (g : Gate) : Bool :=
  marks.any fun r => g.names r && decide (r.outcome = .reached)

/-- A gate is voided: the list holds a VOID record that it names (R54). -/
def Gate.voided (marks : List MarkRecord) (g : Gate) : Bool :=
  marks.any fun r => g.names r && decide (r.outcome = .void)

/-- An entry's gates are decided: every one satisfied, or one voided, or withdrawn-by present (R54). -/
def Move.decided (marks : List MarkRecord) (m : Move) : Bool :=
  m.gates.all (Gate.satisfied marks) || m.gates.any (Gate.voided marks) || m.withdrawnBy

/-- The gate wait timer of an entry at the instant it becomes head: its wait limit, if it has one and its gates are not
decided (R56). -/
def headTimer (marks : List MarkRecord) : List Move → Option Nat
  | [] => none
  | m :: _ => if m.decided marks then none else m.waitLimit

/-- The gate wait timer stops when the head's gates are decided (R54, R56). -/
def State.judgeGates (s : State) : State :=
  match s.mc.queue with
  | m :: _ => if m.decided s.gate.marks then s.updGate fun g => { g with timer := none } else s
  | [] => s

/-- The entries whose gates a MARK is judged by: those not started (R52), but for a head whose retirement after an expiry is
deferred (R57; DEDUCED where R52 and R19 say otherwise, notes/assumptions/28.md). -/
def State.markNamers (s : State) : List Move := if s.mc.deferredExpiry = true then s.unstarted.tail else s.unstarted

/-- The Gate Unit at the take of MARK(t, n, o) from `src`: ignored when a record has its identity or no entry it is judged by
names it; otherwise a record is added and the head's gates are judged (R52, R54, R57). -/
def State.markTake (src : Addr) (t : Tag) (n : Nat) (o : MarkOutcome) (s : State) : State :=
  let r : MarkRecord := { source := src, tag := t, marker := n, outcome := o }
  if s.gate.marks.any fun x => decide (x.source = src) && decide (x.tag = t) && decide (x.marker = n) then s
  else if namedBy s.markNamers r then (s.updGate fun g => { g with marks := g.marks ++ [r] }).judgeGates
  else s

/-! ## Markers -/

/-- Markers in ascending number; a move's markers are numbered 0 and 1 (R7). -/
def ascending (ms : List Marker) : List Marker :=
  (ms.filter fun m => decide (m.number = 0)) ++ ms.filter fun m => decide (m.number ≠ 0)

/-- Make the output line that a marker names active (R48). -/
def Outputs.light (o : Outputs) : Option MarkerLine → Outputs
  | some .mko0 => { o with mko0 := true }
  | some .mko1 => { o with mko1 := true }
  | none => o

/-- Queue MARK REACHED for each of these markers of tag `t` and set the line each names (R46, R48). -/
def State.reachAll (t : Tag) : List Marker → State → State
  | [], s => s
  | m :: ms, s => ((s.queueSync (.mark t m.number .reached)).updOut fun o => o.light m.line).reachAll t ms

/-- The unreached markers picked become reached, in ascending number (R46, R47). -/
def State.reach (pick : Marker → Bool) (s : State) : State :=
  match s.gate.held with
  | none => s
  | some h =>
    (s.reachAll h.tag (ascending (h.unreached.filter pick))).updGate
      fun g => { g with held := some { h with unreached := h.unreached.filter fun m => !pick m } }

/-- Queue MARK VOID for each of these markers of tag `t` (R49). -/
def State.voidAll (t : Tag) : List Marker → State → State
  | [], s => s
  | m :: ms, s => (s.queueSync (.mark t m.number .void)).voidAll t ms

end Sys2Proof.Machine
end

