-- ==== Sys2Proof/Machine/Notices.lean ====
section
/-! DEFINITION. The notice list: raising and merging a HALT notice, the ends of its transmission, a HALT taken from another
sender, and the URGENT share (R93 to R96, R101, R102). -/

namespace Sys2Proof.Machine

/-- The causes that a HALT notice of this node can carry, raised with it or through R35 (the last column of R107's table). -/
def causeInNotice : Cause → Bool
  | .limit => true
  | .limitActive => true
  | .softLimit => false
  | .range => false
  | .driveAlarm => true
  | .stopInput => true
  | .stationStop => true
  | .peerHalt => true
  | .peerLost => true
  | .peerWithdrew => false
  | .rollTimeout => true
  | .tagMismatch => true
  | .gateVoid => false
  | .gateTimeout => false
  | .seekOverrun => false
  | .link => true

/-- What a notice says after another is merged with it: a NOW upgrades a RAMP, and nothing else changes it (R96). -/
def mergeContent (e n : NoticeContent) : NoticeContent := if n.kind = .now ∧ e.kind = .ramp then n else e

/-- This node's notice for a group, if the list holds one (R93). -/
def State.noticeFor (s : State) (g : GroupNo) : Option Notice := s.mc.notices.find? fun n => decide (n.group = g)

/-- Change the notice for a group. -/
def changeNotice (g : GroupNo) (f : Notice → Notice) (ns : List Notice) : List Notice :=
  ns.map fun n => if n.group = g then f n else n

/-- The list without the notice for a group. -/
def withoutNotice (g : GroupNo) (ns : List Notice) : List Notice := ns.filter fun n => decide (n.group ≠ g)

/-- The status of a notice with which another is merged: a DEFERRED one becomes WAITING unless the other is deferred too
(R96). -/
def mergedStatus (st : NoticeStatus) (deferred : Bool) : NoticeStatus :=
  if st = .deferred ∧ deferred = false then .waiting else st

/-- The upgrade held for a notice in transmission after another notice for its group is raised (R96); a second one is
merged with the first (DEDUCED, notes/assumptions/9.md). -/
def heldUpgrade (u : Option NoticeContent) (n : NoticeContent) : Option NoticeContent :=
  match u with
  | some u => some (mergeContent u n)
  | none => some n

/-- Raise a notice for group `g`: added at the end of the list, or merged with the one the list holds, or held as its
upgrade while that one is in transmission (R93, R96). -/
def State.raiseNotice (g : GroupNo) (n : NoticeContent) (deferred : Bool) (s : State) : State :=
  match s.noticeFor g with
  | none =>
    s.updMc fun m => { m with notices := m.notices ++
      [{ group := g, content := n, status := if deferred then .deferred else .waiting, upgrade := none }] }
  | some e =>
    if s.fq.haltSending g then
      s.updMc fun m => { m with notices := changeNotice g (fun x => { x with upgrade := heldUpgrade e.upgrade n }) m.notices }
    else
      let c := mergeContent e.content n
      let f := fun x : Notice => { x with content := c, status := mergedStatus x.status deferred }
      (s.updMc fun m => { m with notices := changeNotice g f m.notices }).updFq fun q => q.changeHalt g c

/-- The attempt of the notice for `g` was lost in arbitration or rejected: an upgrade held for it is merged into it (R96). -/
def State.noticeReturned (g : GroupNo) (s : State) : State :=
  match s.noticeFor g with
  | some e =>
    match e.upgrade with
    | some u =>
      let c := mergeContent e.content u
      let f := fun x : Notice => { x with content := c, upgrade := none }
      (s.updMc fun m => { m with notices := changeNotice g f m.notices }).updFq fun q => q.changeHalt g c
    | none => s
  | none => s

/-- The upgrade of a notice that was taken becomes a new WAITING notice, if the one taken was RAMP and it is NOW (R96). -/
def upgradeAfterTake (e : Notice) : List Notice :=
  match e.upgrade with
  | some u =>
    if e.content.kind = .ramp ∧ u.kind = .now then [{ group := e.group, content := u, status := .waiting, upgrade := none }]
    else []
  | none => []

/-- This node's HALT to `g` was taken: its notice leaves the list (R86, R94, R96). -/
def State.noticeTaken (g : GroupNo) (s : State) : State :=
  match s.noticeFor g with
  | some e => s.updMc fun m => { m with notices := withoutNotice g m.notices ++ upgradeAfterTake e }
  | none => s

/-- This node's HALT to `g` was discarded: its notice leaves the list with any upgrade, and a DEFERRED (NOW, LINK, tag)
notice is raised for the group (R94, R96, R101). -/
def State.noticeDiscarded (g : GroupNo) (s : State) : State :=
  match s.noticeFor g with
  | some e =>
    (s.updMc fun m => { m with notices := withoutNotice g m.notices }).raiseNotice g
      { kind := .now, cause := .link, tag := e.content.tag } true
  | none => s

/-- A HALT of kind `k` for `g` taken from another sender removes this node's notice for `g` when the HALT is NOW or the
notice is RAMP; a removed notice leaves the URGENT share too (R95). -/
def State.haltMeetsNotice (g : GroupNo) (k : HaltKind) (s : State) : State :=
  match s.noticeFor g with
  | some e =>
    if k = .now ∨ e.content.kind = .ramp then
      (s.updMc fun m => { m with notices := withoutNotice g m.notices }).updFq fun q => q.removeQueued (OutFrame.isHaltFor g)
    else s
  | none => s

/-- The link is ACTIVE again: every DEFERRED notice becomes WAITING, in list order (R102). -/
def State.releaseDeferred (s : State) : State :=
  s.updMc fun m => { m with notices := m.notices.map fun n => if n.status = .deferred then { n with status := .waiting } else n }

/-- With the URGENT share free, the oldest WAITING notice is queued in it as a HALT and becomes OFFERED (R94). -/
def State.fillUrgent (s : State) : State :=
  if s.fq.count .urgent < share .urgent then
    match s.mc.notices.find? fun n => decide (n.status = .waiting) with
    | some n =>
      (s.push (.halt n.group n.content.kind n.content.cause n.content.tag)).updMc
        fun m => { m with notices := changeNotice n.group (fun x => { x with status := .offered }) m.notices }
    | none => s
  else s

end Sys2Proof.Machine
end

