-- ==== Sys2Proof/Machine/Profile.lean ====
section
/-! DEFINITION. Profile slots and the rate function of a profile (R61 to R64, R123, R126). -/

namespace Sys2Proof.Machine

/-- The slot of a number 0..3; no other number names a slot (R61). -/
def Slots.get (x : Slots) : Nat → Slot
  | 0 => x.s0 | 1 => x.s1 | 2 => x.s2 | 3 => x.s3 | _ => .empty

/-- Change the slot of a number 0..3. -/
def Slots.set (x : Slots) (n : Nat) (v : Slot) : Slots :=
  match n with
  | 0 => { x with s0 := v }
  | 1 => { x with s1 := v }
  | 2 => { x with s2 := v }
  | 3 => { x with s3 := v }
  | _ => x

/-- DEFINED: the slot holds a whole profile; a table is whole once every index holds an entry (R123, R126). -/
def Slot.isDefined : Slot → Bool
  | .empty => false
  | .ramp _ _ _ _ => true
  | .table es => es.all Option.isSome

/-- PARTIAL: a TABLE profile still being assembled (R123). -/
def Slot.isPartial : Slot → Bool
  | .table es => !es.all Option.isSome
  | _ => false

/-- The entries of a table that are present, in index order. -/
def presentEntries (es : List (Option TableEntry)) : List TableEntry := es.filterMap id

/-- The rate of the entry whose span holds `c`: the first covers `count` values of `c`, the rest what follows, and the
last entry all that is left (R64). -/
def tableRate : List TableEntry → Nat → Nat
  | [], _ => 0
  | [e], _ => e.rate
  | e :: rest, c => if c < e.count then e.rate else tableRate rest (c - e.count)

/-- The ramp length A (R61): given, or the sum of a table's counts. -/
def Slot.rampLength : Slot → Nat
  | .empty => 0
  | .ramp _ _ _ a => a
  | .table es => ((presentEntries es).map (·.count)).sum

/-- The start rate Rs (R61): given, or the rate of a table's first entry. -/
def Slot.startRate : Slot → Nat
  | .empty => 0
  | .ramp _ rs _ _ => rs
  | .table es => match presentEntries es with | e :: _ => e.rate | [] => 0

/-- The cruise rate Rc (R61): given, or the rate of a table's last entry. -/
def Slot.cruiseRate : Slot → Nat
  | .empty => 0
  | .ramp _ _ rc _ => rc
  | .table es => match (presentEntries es).getLast? with | some e => e.rate | none => 0

/-- The rate function r(c) (R62, R63, R64). -/
def Slot.rate : Slot → Nat → Nat
  | .empty, _ => 0
  | .ramp .linear rs rc a, c => rs + (rc - rs) * c / a
  | .ramp .scurve rs rc a, c => rs + (rc - rs) * (3 * c ^ 2 * a - 2 * c ^ 3) / a ^ 3
  | .table es, c => tableRate (presentEntries es) c

/-- The cap of a move at a scale: S × Rc / 100, rounded down and raised to Rs (R67). -/
def Slot.cap (x : Slot) (scale : Nat) : Nat := max (scale * x.cruiseRate / 100) x.startRate

/-- The kind of the next lead step in phase RUN, from L, p, c and the cap (R68). -/
def runStep (x : Slot) (L p c cap : Nat) : StepKind :=
  if c + 2 ≤ L - p ∧ c < x.rampLength ∧ x.rate (c + 1) ≤ cap then .climb
  else if c + 1 ≤ L - p ∧ x.rate c ≤ cap then .hold
  else .descent

/-- The rate of a step from climb counter `c`: r of the smaller of the counter before and after (R69). -/
def stepRate (x : Slot) (c : Nat) : StepKind → Nat
  | .climb => x.rate c
  | .hold => x.rate c
  | .descent => x.rate (c - 1)

/-- The climb counter after a step (R68). -/
def stepClimb (c : Nat) : StepKind → Nat
  | .climb => c + 1
  | .hold => c
  | .descent => c - 1

/-- The pending step decided from the phase, L, p, c and the cap (R68, R69, R72). -/
def decideStep (x : Slot) (phase : Phase) (L p c cap : Nat) : PendingStep :=
  let kind := match phase with
    | .descent => .descent
    | _ => runStep x L p c cap
  { kind, rate := stepRate x c kind }

end Sys2Proof.Machine
end

