-- ==== Sys2Proof/Machine/Retirement.lean ====
section
/-! DEFINITION. The head and its end: the planned end position (R4), the start of a move (R15, R34, R66), stopping its lead
(R72 to R74), retirement (R17 to R21), the failure of an announced head (R41, R42) and the LINK cause (R101). -/

namespace Sys2Proof.Machine

/-- The head of the move queue (R1). -/
def State.head (s : State) : Option Move := s.mc.queue.head?

/-- The head's group (R2). -/
def State.headGroup (s : State) : Option GroupNo := match s.head with | some m => m.group | none => none

/-- The head is the move of group `g` with tag `t`. -/
def State.headIs (s : State) (g : GroupNo) (t : Tag) : Bool :=
  match s.head with
  | some m => decide (m.group = some g) && decide (m.tag = t)
  | none => false

/-- The profile a move names (R61). -/
def State.profileOf (s : State) (m : Move) : Slot := s.store.slots.get m.slot

/-- The entry of the group table for a group (R25). -/
def State.groupEntry (s : State) (g : GroupNo) : Option GroupEntry := s.roll.groups.find? fun e => decide (e.number = g)

/-- The applicable scale of a move: its group's scale, or the solo scale (R67, R85). -/
def State.scaleOf (s : State) (m : Move) : Nat :=
  match m.group with
  | some g => match s.groupEntry g with | some e => e.scale | none => 100
  | none => s.lead.soloScale

/-- The signed count of the pulses made for a move (R4, R75). -/
def signedPulses (dist : Int) (pulses : Nat) : Int := if dist < 0 then -(pulses : Int) else (pulses : Int)

/-- The planned end position: the position, what the head still has to go, and the distances of the entries behind it;
absent while a SEEK is queued (R4). -/
def State.plannedEnd (s : State) : Option Int :=
  if s.mc.queue.any fun m => decide (m.kind = .seek) then none
  else
    let gone := match s.head with
      | some m => if s.mc.state.moving then signedPulses m.dist s.lead.pulses else 0
      | none => 0
    some (s.lead.position + (s.mc.queue.map (·.dist)).sum - gone)

/-! ## Starting -/

/-- DIR at the start of a move: forward for D > 0, reverse for D < 0, unchanged for a dwell (R66, R76). -/
def startDir (d : Direction) (dist : Int) : Direction := if 0 < dist then .forward else if dist < 0 then .reverse else d

/-- The lead at the start of a move: everything at 0, the cap computed, the first step decided, phase RUN (R66). -/
def Lead.start (l : Lead) (x : Slot) (L scale : Nat) : Lead :=
  { l with phase := .run, p := 0, c := 0, cap := some (x.cap scale),
           step := some (decideStep x .run L 0 0 (x.cap scale)), acc := 0, pulses := 0 }

/-- Start the head: the marker lines go inactive, DIR is set, the lead begins, the gates are consumed, the gate wait timer
and the roll timeout stop, and the node is RUNNING (R15, R34, R46, R48, R53, R66). -/
def State.startMove (m : Move) (s : State) : State :=
  let s1 := s.updOut fun o => { o with mko0 := false, mko1 := false, dir := startDir o.dir m.dist }
  let s2 := s1.updLead fun l => l.start (s.profileOf m) m.lead (s.scaleOf m)
  let s3 := s2.updGate fun g =>
    { marks := keepNamed s.mc.queue.tail g.marks, timer := none, held := some { tag := m.tag, unreached := m.markers } }
  let s4 := s3.updRoll fun r => { r with timer := none }
  s4.updMc fun c => { c with state := .running, descentCause := none, kept := [] }

/-! ## Retirement -/

/-- The retirement record of the head (R17): progress and pulses are 0 for a move that did not start. -/
def State.recordOf (s : State) (m : Move) (o : RetireOutcome) (c : Option Cause) : Record :=
  { tag := m.tag, group := m.group, outcome := o, cause := c,
    progress := if s.mc.state.moving then s.lead.p else 0,
    pulses := if s.mc.state.moving then s.lead.pulses else 0,
    position := s.lead.position }

/-- The REPORT is queued to the origin if a REPLY entry is free; otherwise the record waits (R18). -/
def State.report (w : WaitingRecord) (s : State) : State :=
  if 0 < s.fq.free then s.push (.report w.origin w.record) else s.updMc fun m => { m with record := some w }

/-- A FAILED group move queues WITHDRAW, for every cause but PEER_WITHDREW (R21). -/
def State.withdraw (m : Move) (o : RetireOutcome) (c : Option Cause) (s : State) : State :=
  match o, m.group, c with
  | .failed, some g, some k => if k = .peerWithdrew then s else s.queueSync (.withdraw g m.tag k)
  | _, _, _ => s

/-- The markers a retirement voids: those still unreached, or all of them for a move that did not start (R21, R49). -/
def State.unreachedOf (s : State) (m : Move) : List Marker :=
  if s.mc.state.moving then (match s.gate.held with | some h => h.unreached | none => []) else m.markers

/-- The hold-cause set after a retirement: the cause of a HALTED or FAILED one is added (R20). -/
def causesAfter (cs : CauseSet) : Option Cause → CauseSet
  | some c => withCause cs c
  | none => cs

/-- The node state after a retirement (R20). -/
def stateAfter (cs : CauseSet) (holdPending : Bool) (rest : List Move) : NodeState :=
  if cs = 0 ∧ holdPending = false then (match rest with | [] => .idle | _ :: _ => .pending) else .held

/-- Retire the head with an outcome and a cause (R17 to R21): the REPORT, the WITHDRAW and the MARK VOID frames, in that
order; the entry leaves the queue, the records no longer named are dropped, the timers of the old head stop and the new
head's gate wait timer starts (R3, R53, R56); and the node takes its next state. -/
def State.retire (o : RetireOutcome) (c : Option Cause) (s : State) : State :=
  match s.mc.queue with
  | [] => s
  | m :: rest =>
    let s1 := s.report { origin := m.origin, record := s.recordOf m o c }
    let s2 := s1.withdraw m o c
    let s3 := s2.voidAll m.tag (ascending (s.unreachedOf m))
    let marks := keepNamed rest s.gate.marks
    let s4 := s3.updGate fun _ => { marks := marks, timer := headTimer marks rest, held := none }
    let s5 := s4.updRoll fun r => { r with timer := none }
    s5.updMc fun x =>
      { x with queue := rest, causes := causesAfter x.causes c,
               state := stateAfter (causesAfter x.causes c) x.holdPending rest,
               deferredExpiry := false, kept := [], descentCause := none }

/-- A REPLY entry was freed: a waiting record's REPORT takes it, and then a deferred retirement is made (R18, R19). -/
def State.replyFreed (s : State) : State :=
  match s.mc.record with
  | none => s
  | some w =>
    if 0 < s.fq.free then
      let s1 := (s.push (.report w.origin w.record)).updMc fun m => { m with record := none }
      if s.mc.deferredExpiry then s1.retire .failed (some .gateTimeout) else s1
    else s

/-! ## Stopping -/

/-- The lead stops at once: the pending step is dropped and the phase is STOPPED; p, c, the pulse count and the position
keep their values (R73). -/
def State.stopLead (s : State) : State :=
  s.updLead fun l => { l with phase := .stopped, step := none, cap := none }

/-- The lead is stopped at once and the move retired HALTED with the cause, or COMPLETE if p = L (R73, R74). -/
def State.haltMove (c : Cause) (s : State) : State :=
  match s.head with
  | some m => if s.lead.p = m.lead then s.stopLead.retire .complete none else s.stopLead.retire .halted (some c)
  | none => s

/-- A halt descent begins with the climb counter above 0; with it at 0 the lead stops at once (R72). -/
def State.haltDescent (c : Cause) (s : State) : State :=
  if s.lead.c = 0 then s.haltMove c
  else (s.updLead fun l => { l with phase := .descent }).updMc
    fun m => { m with state := .stopping, descentCause := some c }

/-- Raise a notice for the move's group, if it has one; a solo move raises none (R93). -/
def State.notify (m : Move) (k : HaltKind) (c : Cause) (deferred : Bool) (s : State) : State :=
  match m.group with
  | some g => s.raiseNotice g { kind := k, cause := c, tag := m.tag } deferred
  | none => s

/-- Stop the move in hand at once for a cause of this node's own, and tell its group (R93, R97, R99, R100, R101). -/
def State.stopMove (c : Cause) (deferred : Bool) (s : State) : State :=
  match s.head with
  | some m => (s.haltMove c).notify m .now c deferred
  | none => s

/-- Bring the move in hand down along its profile for a cause of this node's own, and tell its group (R104, R114). -/
def State.rampMove (c : Cause) (s : State) : State :=
  match s.head with
  | some m => ((s.addCause c).haltDescent c).notify m .ramp c false
  | none => s

/-- An announced head is given up: its READY leaves the Frame Queue if it is queued, and it is retired; causes that
arrived later are added to the hold-cause set (R37, R41, R43, R91). -/
def State.giveUp (o : RetireOutcome) (c : Cause) (later : List Cause) (s : State) : State :=
  (s.removeReady.retire o (some c)).addCauses later

/-- A cause of R41 reaches an announced head: it fails at once, or the cause is kept while its READY is in transmission
(R41, R42, R43). -/
def State.failAnnounced (c : Cause) (s : State) : State :=
  if s.mc.state = .announcing ∧ s.fq.readySending = true then s.updMc fun m => { m with kept := m.kept ++ [c] }
  else s.giveUp .failed c []

/-! ## The LINK cause -/

/-- The action of the LINK cause in each node state (R101); with causes kept for an announced head, the first of them is
the cause it fails with (R42). -/
def State.linkCause (s : State) : State :=
  match s.mc.state with
  | .unconfigured => s
  | .idle => s.hold .link
  | .pending => s.hold .link
  | .announcing => match s.mc.kept with
    | [] => s.giveUp .failed .link []
    | k :: ks => s.giveUp .failed k (ks ++ [.link])
  | .armed => s.giveUp .failed .link []
  | .running => s.stopMove .link (decide (s.link.state ≠ .active))
  | .stopping => s.stopMove .link (decide (s.link.state ≠ .active))
  | .held => s.addCause .link

/-- Give the LINK cause; a SYNC frame lost while it is acted on gives none (R44, R155). -/
def State.takeLink (s : State) : State := s.linkCause.updMc fun m => { m with linkDue := false }

/-- Give the LINK cause that a full SYNC share left due (R155). -/
def State.giveLink (s : State) : State := if s.mc.linkDue then s.takeLink else s

end Sys2Proof.Machine
end

