-- ==== Sys2Proof/Machine/Arming.lean ====
section
/-! DEFINITION. Arming: readiness and the arming checks (R12 to R14), the announcement and the solo start (R15, R32), the
completion of a SEEK on HOME (R47, R79), and what follows an event at its end: the LINK cause due, the checks of a head
made ready, the URGENT share and the offer (R12, R94, R152, R155). -/

namespace Sys2Proof.Machine

/-- The first of an ordered list of checks that fails. -/
def firstFailing {α : Type} : List (Bool × α) → Option α
  | [] => none
  | (fails, a) :: rest => if fails then some a else firstFailing rest

/-- A position lies outside the soft limits, when they are configured (R8, R13). -/
def State.outsideSoft (s : State) (x : Int) : Bool :=
  match s.softLimits with
  | some r => decide (x < r.softMin) || decide (r.softMax < x)
  | none => false

/-- A limit is asserted in the direction of a distance (check 4 of R13). -/
def State.limitInTheWay (s : State) (dist : Int) : Bool :=
  (limitAhead .positive dist && s.asserted .limp) || (limitAhead .negative dist && s.asserted .limn)

/-- The roll entry of a member other than `self` names a tag other than `t` (R13, R37). -/
def GroupEntry.mismatch (e : GroupEntry) (self : Addr) (t : Tag) : Bool :=
  e.roll.any fun r => decide (r.addr ≠ self) && (match r.tag with | some x => decide (x ≠ t) | none => false)

/-- The arming checks in their order, each with its cause; the end position is the position plus D (R13, R14). -/
def State.armingChecks (s : State) (m : Move) : List (Bool × Cause) :=
  let ge := match m.group with | some g => s.groupEntry g | none => none
  let stop := s.lead.position + m.dist
  [ (m.group.isSome && m.withdrawnBy, .peerWithdrew),
    (m.gates.any (Gate.voided s.gate.marks), .gateVoid),
    (match ge with | some e => decide (e.state = .broken) | none => false, .peerLost),
    (s.limitInTheWay m.dist, .limitActive),
    (decide (m.kind = .travel) && s.outsideSoft stop, .softLimit),
    (decide (stop < counterMin) || decide (counterMax < stop), .range),
    (match ge with | some e => e.mismatch s.self m.tag | none => false, .tagMismatch) ]

/-- The head is ready for its checks: its gates decided, a REPLY entry free, no retirement record waiting (R12). -/
def State.readyFor (s : State) (m : Move) : Bool :=
  m.decided s.gate.marks && decide (0 < s.fq.free) && s.mc.record.isNone

/-- The roll timeout of an announcement: none with a configured 0 (R36). -/
def State.rollTimer (s : State) : Option Nat := if s.timing.roll = 0 then none else some s.timing.roll

/-- Announce the head of group `g`: its READY is queued, the node is ANNOUNCING, the gate wait timer stops and the roll
timeout starts; with the SYNC share full the READY is not queued and the LINK cause is due (R15, R32, R155). -/
def State.announce (g : GroupNo) (m : Move) (s : State) : State :=
  if s.fq.count .sync < share .sync then
    (((s.push (.ready g m.tag)).updGate fun x => { x with timer := none }).updRoll
      fun r => { r with timer := s.rollTimer }).updMc fun c => { c with state := .announcing }
  else s.updMc fun c => { c with linkDue := true }

/-- A SEEK completes on HOME: the lead stops, the position is set to the home value, every unreached marker is reached,
and the move is retired COMPLETE (R47, R79). -/
def State.completeSeek (s : State) : State :=
  ((s.stopLead.updLead fun l => { l with position := s.homeValue }).reach fun _ => true).retire .complete none

/-- Start a solo head; a SEEK that finds HOME asserted completes at the same instant (R15). -/
def State.startSolo (m : Move) (s : State) : State :=
  if m.kind = .seek ∧ s.asserted .home = true then (s.startMove m).completeSeek else s.startMove m

/-- Run the arming checks on the head, and retire, announce or start it (R13, R15, R16). -/
def State.armHead (m : Move) (s : State) : State :=
  match firstFailing (s.armingChecks m) with
  | some c => s.retire .failed (some c)
  | none => match m.group with
    | some g => s.announce g m
    | none => s.startSolo m

/-- The LINK cause due is given, and then, while the node is PENDING with a ready head, the head is checked, up to `n`
heads: a SEEK that completes at its start passes the node on to the next head (R12, R15, R155). -/
def State.settle : Nat → State → State
  | 0, s => s.giveLink
  | n + 1, s =>
    let s1 := s.giveLink
    match s1.mc.state, s1.mc.queue with
    | .pending, m :: _ => if s1.readyFor m then (s1.armHead m).settle n else s1
    | _, _ => s1

/-- What follows an event at its end: the LINK cause due, the arming of a ready head, the URGENT share, the offer. -/
def State.finish (s : State) : State := ((s.settle s.mc.queue.length).fillUrgent).offer

end Sys2Proof.Machine
end

