-- ==== Sys2Proof/Machine/Rolls.lean ====
section
/-! DEFINITION. The Roll Unit and the Peer Table: the roll and the start event (R28 to R35), withdrawal (R30, R39, R40), a
HALT taken (R31, R87 to R92), presence and group state (R109 to R116). -/

namespace Sys2Proof.Machine

/-! ## The roll -/

/-- The member set of a group (R25). -/
def GroupEntry.members (e : GroupEntry) : List Addr := e.roll.map (·.addr)

/-- Write a member's roll entry (R28). -/
def GroupEntry.write (m : Addr) (t : Option Tag) (e : GroupEntry) : GroupEntry :=
  { e with roll := e.roll.map fun r => if r.addr = m then { r with tag := t } else r }

/-- Empty every roll entry that names `t` (R28). -/
def GroupEntry.emptyTag (t : Tag) (e : GroupEntry) : GroupEntry :=
  { e with roll := e.roll.map fun r => if r.tag = some t then { r with tag := none } else r }

/-- Empty every roll entry (R31). -/
def GroupEntry.emptyAll (e : GroupEntry) : GroupEntry := { e with roll := e.roll.map fun r => { r with tag := none } }

/-- Every member's entry names `t` (R34). -/
def GroupEntry.complete (e : GroupEntry) (t : Tag) : Bool := e.roll.all fun r => decide (r.tag = some t)

/-- Change the entry of the group table for a group. -/
def State.updGroup (g : GroupNo) (f : GroupEntry → GroupEntry) (s : State) : State :=
  s.updRoll fun r => { r with groups := r.groups.map fun e => if e.number = g then f e else e }

/-- A WITHDRAW(g, t, c) whose cause a HALT notice can carry, which a notice replaces at a start event (R35, R107). -/
def OutFrame.isToldByNotice (g : GroupNo) (t : Tag) : OutFrame → Bool
  | .withdraw g' t' c => decide (g' = g) && decide (t' = t) && causeInNotice c
  | _ => false

/-- The cause of the oldest queued WITHDRAW(g, t, c) of this node's own that a notice replaces (R35, R107; of several the
oldest is DEDUCED, notes/assumptions/15.md). -/
def FrameQueue.withdrawCause (q : FrameQueue) (g : GroupNo) (t : Tag) : Option Cause :=
  match q.entries.find? fun e => decide (e.status = .queued) && e.frame.isToldByNotice g t with
  | some e => match e.frame with | .withdraw _ _ c => some c | _ => none
  | none => none

/-- The roll of `g` is complete for `t` and this node holds an entry naming `t` without being announced for it: its peers
start without it, and it raises HALT(NOW, cause, t), with the cause of its queued WITHDRAW, which the notice replaces, or
LINK for a stale entry (R35). A WITHDRAW whose cause R107 keeps from a HALT notice is of a head that was never announced, so
the entry is stale and that WITHDRAW stays queued. Any other gives its cause, whichever load of the tag it tells of (DESIGN
CHOICE, notes/assumptions/31.md). -/
def State.staleStart (g : GroupNo) (t : Tag) (s : State) : State :=
  match s.fq.withdrawCause g t with
  | some c =>
    (s.updFq fun q => q.removeQueued (OutFrame.isToldByNotice g t)).raiseNotice g
      { kind := .now, cause := c, tag := t } false
  | none => s.raiseNotice g { kind := .now, cause := .link, tag := t } false

/-- The start event for (g, t) (R34): the entries naming `t` are emptied, and this node's announced head (g, t) starts;
without one, R35 applies. -/
def State.startEvent (g : GroupNo) (t : Tag) (s : State) : State :=
  let s1 := s.updGroup g (·.emptyTag t)
  if s1.mc.state.announced && s1.headIs g t then
    match s1.head with
    | some m => s1.removeReady.startMove m
    | none => s1
  else s1.staleStart g t

/-- This node has an announced head of `g`, and the roll of `g` shows a tag mismatch for it (R29, R37). -/
def State.mismatched (s : State) (g : GroupNo) : Bool :=
  match s.head, s.groupEntry g with
  | some m, some e => s.mc.state.announced && decide (m.group = some g) && e.mismatch s.self m.tag
  | _, _ => false

/-- The Roll Unit at the take of READY(g, t) from `src`: ignored from outside the member set; otherwise the entry is
written and the roll judged in the order of R29. -/
def State.readyTake (src : Addr) (g : GroupNo) (t : Tag) (s : State) : State :=
  match s.groupEntry g with
  | none => s
  | some e =>
    if src ∈ e.members then
      let s1 := s.updGroup g (·.write src (some t))
      if (e.write src (some t)).complete t then s1.startEvent g t
      else if s1.mismatched g then s1.giveUp .failed .tagMismatch []
      else if src = s.self ∧ s.mc.state = .announcing ∧ s.headIs g t = true then
        s1.updMc fun m => { m with state := .armed }
      else s1
    else s

/-! ## Withdrawal -/

/-- Flag the entry of group `g` and tag `t` (R40). -/
def flagWithdrawn (g : GroupNo) (t : Tag) (ms : List Move) : List Move :=
  ms.map fun m => if m.group = some g ∧ m.tag = t then { m with withdrawnBy := true } else m

/-- The Move Controller at a WITHDRAW(g, t) from another member: an announced head so named fails PEER_WITHDREW, a started
one is unaffected, and any other entry so named is flagged, which decides the gates of a head (R39, R40, R54). -/
def State.withdrawn (g : GroupNo) (t : Tag) (s : State) : State :=
  if s.headIs g t then
    if s.mc.state.announced then s.giveUp .failed .peerWithdrew []
    else if s.mc.state.moving then s
    else (s.updMc fun m => { m with queue := flagWithdrawn g t m.queue }).judgeGates
  else s.updMc fun m => { m with queue := flagWithdrawn g t m.queue }

/-- The take of WITHDRAW(g, t) from `src`: ignored from outside the member set; the entries naming `t` are emptied, and the
queue is acted on unless the WITHDRAW is this node's own (R26, R30, R39). -/
def State.withdrawTake (src : Addr) (g : GroupNo) (t : Tag) (s : State) : State :=
  match s.groupEntry g with
  | none => s
  | some e =>
    if src ∈ e.members then
      let s1 := s.updGroup g (·.emptyTag t)
      if src = s.self then s1 else s1.withdrawn g t
    else s

/-! ## A HALT taken -/

/-- Hold-pending is set and the cause added (R22). -/
def State.setHoldPending (c : Cause) (s : State) : State := (s.addCause c).updMc fun m => { m with holdPending := true }

/-- The action of a HALT of kind `k` for `g` from another sender, by the node state at the take (R88 to R92). -/
def State.haltAct (g : GroupNo) (k : HaltKind) (c : Cause) (s : State) : State :=
  match s.mc.state with
  | .unconfigured => s
  | .idle => s.hold c
  | .pending => s.hold c
  | .held => s.addCause c
  | .announcing => if s.headGroup = some g then s.giveUp .halted c [] else s.giveUp .failed c []
  | .armed => if s.headGroup = some g then s.giveUp .halted c [] else s.giveUp .failed c []
  | .running =>
    if s.headGroup = some g then
      match k with
      | .ramp => (s.addCause c).haltDescent c
      | .now => s.haltMove c
    else s.setHoldPending c
  | .stopping =>
    if s.headGroup = some g then
      match k with
      | .ramp => s.addCause c
      | .now => s.haltMove c
    else s.setHoldPending c

/-- The cause a taken HALT records: PEER_HALT from a member, STATION_STOP from any other sender (R87). -/
def GroupEntry.haltCause (e : GroupEntry) (src : Addr) : Cause := if src ∈ e.members then .peerHalt else .stationStop

/-- The take of a HALT for `g` from another sender: a member empties the roll, judges its own notice and acts (R26, R31,
R86, R88, R95). -/
def State.haltTake (src : Addr) (g : GroupNo) (k : HaltKind) (s : State) : State :=
  match s.groupEntry g with
  | none => s
  | some e => ((s.updGroup g (·.emptyAll)).haltMeetsNotice g k).haltAct g k (e.haltCause src)

/-! ## Presence and group state -/

/-- The Peer Table's entry for an address (R108). -/
def State.peerEntry (s : State) (a : Addr) : Option PeerEntry := s.peer.peers.find? fun e => decide (e.addr = a)

/-- Change the Peer Table's entry for an address. -/
def State.updPeerEntry (a : Addr) (f : PeerEntry → PeerEntry) (s : State) : State :=
  s.updPeer fun t => { t with peers := t.peers.map fun e => if e.addr = a then f e else e }

/-- An address is PRESENT in the Peer Table. -/
def State.isPresent (s : State) (a : Addr) : Bool :=
  match s.peerEntry a with
  | some e => decide (e.presence = .present)
  | none => false

/-- Every member other than this node is PRESENT (R112). -/
def State.allPresent (s : State) (e : GroupEntry) : Bool := e.members.all fun a => decide (a = s.self) || s.isPresent a

/-- The group state judged at a presence change of a member; `lost` when the member left PRESENT (R112). -/
def State.judgedState (s : State) (e : GroupEntry) (lost : Bool) : GroupState :=
  match e.state with
  | .whole => if lost then .broken else .whole
  | st => if s.allPresent e then .whole else st

/-- The group of the move in hand has become BROKEN while it is RUNNING: PEER_LOST, a halt descent and a RAMP notice
(R114). -/
def State.breakRunning (s : State) : State := s.rampMove .peerLost

/-- A group has become BROKEN: it acts on this node's head of that group, by the node state (R114, R115, R116). -/
def State.groupBroken (g : GroupNo) (s : State) : State :=
  if s.headGroup = some g then
    match s.mc.state with
    | .running => s.breakRunning
    | .announcing => s.failAnnounced .peerLost
    | .armed => s.failAnnounced .peerLost
    | _ => s
  else s

/-- One group at a presence change of member `a`: the roll entry of a lost member is emptied, the group state is judged,
and a change to BROKEN is acted on (R111, R113). -/
def State.presenceInGroup (a : Addr) (lost : Bool) (s : State) (g : GroupNo) : State :=
  match s.groupEntry g with
  | none => s
  | some e =>
    let st := s.judgedState e lost
    let s1 := s.updGroup g fun x => { (if lost then x.write a none else x) with state := st }
    if st = .broken ∧ e.state ≠ .broken then s1.groupBroken g else s1

/-- The groups whose member set holds an address (R111). -/
def State.groupsOf (s : State) (a : Addr) : List GroupNo :=
  (s.roll.groups.filter fun e => decide (a ∈ e.members)).map (·.number)

/-- An entry's presence becomes `new`; a change is reported to the Roll Unit for each group of the member (R111). -/
def State.setPresence (a : Addr) (new : Presence) (s : State) : State :=
  match s.peerEntry a with
  | none => s
  | some e =>
    if e.presence = new then s
    else
      let s1 := s.updPeerEntry a fun x => { x with presence := new }
      (s1.groupsOf a).foldl (State.presenceInGroup a (decide (e.presence = .present))) s1

/-- What a taken frame shows of its sender (R109). -/
inductive Heard where
  /-- a reply, a request or a SCALE: the sender is alive -/
  | alive
  /-- a READY, WITHDRAW, HALT or MARK: the sender is configured -/
  | configured
  /-- a BEACON reporting a node state -/
  | beacon (st : NodeState)
  deriving DecidableEq, Repr

/-- The presence a frame brings its sender to, from any presence (R109). -/
def Heard.presence : Heard → Option Presence
  | .alive => none
  | .configured => some .present
  | .beacon .unconfigured => some .unready
  | .beacon _ => some .present

/-- The last announced state after a frame: that of a BEACON, otherwise as it was (R109). -/
def Heard.lastState (h : Heard) (old : Option NodeState) : Option NodeState :=
  match h with
  | .beacon st => some st
  | _ => old

/-- The Peer Table at the take of a frame from `src`: the silence timer restarts toward the loss time, and the entry
changes by the frame's kind; an address without an entry is not tracked (R108, R109, R110). -/
def State.hear (src : Addr) (h : Heard) (s : State) : State :=
  let s1 := s.updPeerEntry src fun e => { e with timer := some s.timing.loss, lastState := h.lastState e.lastState }
  match h.presence with
  | some p => s1.setPresence src p
  | none => s1

end Sys2Proof.Machine
end

