-- ==== Sys2Proof/Machine/Ops.lean ====
section
/-! DEFINITION. The shared operations of the commands: the ends of an attempt (R138, R143 to R145), this node's own frame
taken (R153), the address clash (R147), the taking of another party's frame (R142), and the handling common to all
requests (R141, R156, R157). -/

namespace Sys2Proof.Machine

/-! ## The reservation -/

/-- One REPLY entry is reserved, or the reservation ends (R156). -/
def State.reserve (b : Bool) (s : State) : State := s.updFq fun q => { q with reserved := b }

/-- A reservation is released at the end of its slot (R156), and the entry goes first to a waiting record, as one freed by
the end of a transmission does (R18; that a released one does is a DESIGN CHOICE, notes/assumptions/33.md). -/
def State.unreserved (s : State) : State := if s.fq.reserved then (s.reserve false).replyFreed else s

/-- A reservation is released with nothing else of the slot to act on (R156): a PENDING head held back for reply room may
then be ready, and is checked. R12's list of the events that run the checks does not name this one (DESIGN CHOICE,
notes/assumptions/33.md). -/
def State.released (s : State) : State := if s.fq.reserved then s.unreserved.finish else s

/-! ## Ends of an attempt -/

/-- What the queuing block does when its frame returns to queued: a READY with a kept cause is given up, and a notice takes
the upgrade held for it (R42, R96). -/
def State.returned (f : OutFrame) (s : State) : State :=
  match f with
  | .ready _ _ => match s.mc.kept with
    | [] => s
    | k :: ks => s.giveUp .failed k ks
  | .halt g _ _ _ => s.noticeReturned g
  | _ => s

/-- The attempt in hand ends lost in arbitration: the entry is queued again, no count changes, and the winner's frame is in
progress on the bus (R138, R143, R153). Nothing happens without an attempt in hand. -/
def State.attemptLost (s : State) : State :=
  match s.fq.sending with
  | none => s
  | some e =>
    (((s.updFq FrameQueue.requeue).updLink fun l => { l with idleCount := 0, inFrame := true }).returned e.frame).finish

/-- What the queuing block does when its frame was discarded: a notice leaves the list and a DEFERRED one is raised; a
freed REPLY entry goes to a waiting record first (R94, R144, R153). A READY is given up by the LINK cause. -/
def State.discardTold (f : OutFrame) (s : State) : State :=
  match f.cls with
  | .urgent => match f with
    | .halt g _ _ _ => s.noticeDiscarded g
    | _ => s
  | .reply => s.replyFreed
  | _ => s

/-- The LINK cause of a discard: for a frame of class URGENT or SYNC (R144). -/
def State.discardLink (f : OutFrame) (s : State) : State :=
  match f.cls with
  | .urgent => s.takeLink
  | .sync => s.takeLink
  | _ => s

/-- Discard the frame in hand: the link becomes LISTEN_ONLY for 20 ms and the count 0, the entry leaves the queue and its
block is told, and the LINK cause is given for an URGENT or SYNC frame, in that order (R144). -/
def State.discard (f : OutFrame) (s : State) : State :=
  let s1 := s.updLink fun l => { l with state := .listenOnly, rejects := 0, listenTimer := some Config.listenMs }
  ((s1.updFq FrameQueue.endSending).discardTold f).discardLink f

/-- The attempt in hand ends rejected: the count rises by 1 and the entry is queued again, or at the fourth in a row the
frame is discarded (R143, R144). Nothing happens without an attempt in hand. -/
def State.attemptRejected (s : State) : State :=
  match s.fq.sending with
  | none => s
  | some e =>
    if s.link.rejects + 1 < Config.rejectLimit then
      ((s.updFq FrameQueue.requeue).updLink fun l => { l with rejects := l.rejects + 1 }).returned e.frame
    else s.discard e.frame

/-- The attempt in hand ends with ADDRESSEE-BUSY alone: a REPLY frame's busy count rises, and at the sixteenth the frame is
dropped; a frame of another class is treated as rejected (R143, R145). Nothing happens without an attempt in hand. -/
def State.attemptBusy (s : State) : State :=
  match s.fq.sending with
  | none => s
  | some e =>
    if e.frame.cls = .reply then
      let s1 := s.updLink fun l => { l with rejects := 0 }
      if e.busy + 1 < Config.busyLimit then s1.updFq fun q => q.countBusy.requeue
      else (s1.updFq FrameQueue.endSending).replyFreed
    else s.attemptRejected

/-! ## This node's own frame taken -/

/-- A kept cause is acted on as for a RUNNING move (R42): a limit is LIMIT there, and PEER_LOST halts along the profile. -/
def State.actOnKept (c : Cause) (s : State) : State :=
  match c with
  | .limitActive => s.stopMove .limit false
  | .peerLost => s.breakRunning
  | k => s.stopMove k false

/-- The decision on the causes kept during the READY's transmission, once it was taken and the roll judged: acted on as for
a RUNNING move after a start, with a roll timeout dropped, so that the first other cause is acted on even where the timeout
was kept first (DEDUCED, notes/assumptions/16.md); the cause of the head's failure when the node is ARMED; added to
the hold-cause set when the take showed a mismatch (R42, R43). -/
def State.decideKept (kept : List Cause) (s : State) : State :=
  match s.mc.state with
  | .running => match kept.filter fun c => decide (c ≠ .rollTimeout) with
    | [] => s
    | k :: ks => (s.actOnKept k).addCauses ks
  | .armed => match kept with
    | [] => s
    | k :: ks => s.giveUp .failed k ks
  | .held => s.addCauses kept
  | _ => s

/-- This node's own frame is dispatched like any other and then its end is reported: the entry leaves the Frame Queue and
the block that queued it acts (R86, R142, R153). A head that this node's own MARK readies is checked after the entry has
left, at the end of the event (R12, R54; the order is a DESIGN CHOICE, notes/assumptions/32.md). -/
def State.ownDispatch (f : OutFrame) (s : State) : State :=
  match f with
  | .ready g t =>
    (((s.updMc fun m => { m with kept := [] }).readyTake s.self g t).updFq FrameQueue.endSending).decideKept s.mc.kept
  | .withdraw g t _ => (s.withdrawTake s.self g t).updFq FrameQueue.endSending
  | .halt g _ _ _ => ((s.updGroup g (·.emptyAll)).updFq FrameQueue.endSending).noticeTaken g
  | .mark t n o => (s.markTake s.self t n o).updFq FrameQueue.endSending
  | .beacon _ _ => s.updFq FrameQueue.endSending
  | .ack .. => (s.updFq FrameQueue.endSending).replyFreed
  | .nak .. => (s.updFq FrameQueue.endSending).replyFreed
  | .status .. => (s.updFq FrameQueue.endSending).replyFreed
  | .report .. => (s.updFq FrameQueue.endSending).replyFreed

/-- The beacon timer restarts toward the interval in effect (R118, R119). Every restart after an accepted COMMIT or RESTART
uses the new interval, one before the take of its ACK too (DESIGN CHOICE, notes/assumptions/30.md). -/
def State.restartBeacon (s : State) : State := s.updPeer fun t => { t with beaconTimer := some s.timing.beacon }

/-- The attempt in hand ends taken: the consecutive-reject count is 0, the beacon timer restarts, the frame is dispatched
and its entry leaves (R118, R143, R153). This node's own frame asks it for no reply, so a reservation still standing is over
(R156). What follows, the arming checks of a head that its own MARK readied among it, comes after the entry has left (DESIGN
CHOICE, notes/assumptions/32.md). Nothing happens without an attempt in hand. -/
def State.ownTaken (s : State) : State :=
  match s.fq.sending with
  | none => s
  | some e =>
    let s1 := (s.afterSlot SlotMarks.none).unreserved.updLink fun l => { l with rejects := 0 }
    (s1.restartBeacon.ownDispatch e.frame).finish

/-- The slot of a frame that this node rejects, or that another party's mark rejects, has ended with the marks this node
drove: an entry reserved for the frame is released, and an attempt of this node that the frame was, from its own address,
ends rejected (R139, R142, R143, R156). What a release brings on comes with it (DESIGN CHOICE, notes/assumptions/33.md). -/
def State.slotRejects (own : Bool) (m : SlotMarks) (s : State) : State :=
  if own then ((s.afterSlot m).unreserved.attemptRejected).finish else (s.afterSlot m).released

/-- An address clash: a frame bearing this node's address that it did not send was taken. An attempt dropped out of is
queued again; the link becomes BLOCKED, a running listen timer stops and the count is 0; at the Peer Table the frame
restarts the beacon timer (R118); an entry reserved for it is released; and the Move Controller is given the LINK cause
(R139, R147, R156). -/
def State.clash (s : State) : State :=
  let s1 := s.updFq FrameQueue.requeue
  let s2 := match s.fq.sending with
    | some e => match e.frame with
      | .halt g _ _ _ => s1.noticeReturned g
      | _ => s1
    | none => s1
  let s3 := (s2.afterSlot SlotMarks.none).updLink fun l => { l with state := .blocked, listenTimer := none, rejects := 0 }
  s3.restartBeacon.unreserved.takeLink.finish

/-! ## Taking another party's frame -/

/-- The entry in transmission holds a frame that this node would recognise as its own (R147). -/
def State.sends (s : State) (own : OutFrame → Bool) : Bool :=
  match s.fq.sending with
  | some e => own e.frame
  | none => false

/-- A frame from `src` is taken: by no node that is OFFLINE; a frame bearing this node's address is its own when it is the
one in transmission, and an address clash otherwise; any other is acted on, an attempt of this node having been lost to it
(R138, R142, R146, R147). -/
def State.takeHeld (src : Addr) (own : OutFrame → Bool) (act : State → State) (s : State) : State :=
  if s.link.state = .offline then s.afterSlot SlotMarks.none
  else if src = s.self then (if s.sends own then s.ownTaken else s.clash)
  else act (s.attemptLost.afterSlot SlotMarks.none)

/-- A frame from `src` that asks this node for no reply is taken: a reservation still standing was that of an earlier slot,
and is over (R156, notes/assumptions/33.md). -/
def State.takeFrom (src : Addr) (own : OutFrame → Bool) (act : State → State) (s : State) : State :=
  s.released.takeHeld src own act

/-! ## Requests -/

/-- The answer to a request (R157). -/
inductive Reply where
  | ack    (detail : Option Nat)
  | nak    (reason : NakReason)
  | status (body : StatusBody)
  deriving DecidableEq, Repr

/-- The frame of a reply: to the request's source, with its number and, for an ACK or NAK, its kind (R157, R158). -/
def Reply.frame (src : Addr) (num kind : Nat) : Reply → OutFrame
  | .ack d => .ack src num kind d
  | .nak r => .nak src num kind r
  | .status b => .status src num b

/-- The slot of a frame that asks this node for a reply finds room: an entry is reserved for the reply already, or 2 are free
(R141, R156). -/
def State.hasRoom (s : State) : Bool := s.fq.reserved || decide (2 ≤ s.fq.free)

/-- An event of the node's own comes about, within the slot of a frame that asks this node for a reply or not. Within it, a
frame is in progress, and an entry stands reserved for the reply if the slot found 2 free; the frame may be one that this
node dropped out of, its own entry still in transmission (R139, R141, R156). -/
def State.slotPassed (inSlot : Bool) (s : State) : State :=
  if inSlot then
    let s1 := s.updLink fun l => { l with idleCount := 0, inFrame := true }
    if s.link.state ≠ .offline ∧ s.hasRoom = true then s1.reserve true else s1
  else s

/-- The reply fills the reserved entry (R156, R157). -/
def State.fill (f : OutFrame) (s : State) : State := (s.push f).reserve false

/-- The mark of a node that has no room to answer (R141). -/
def SlotMarks.busy : SlotMarks := { checkReject := false, addresseeBusy := true }

/-- The mark of a node whose check failed (R140). -/
def SlotMarks.reject : SlotMarks := { checkReject := true, addresseeBusy := false }

/-- A request addressed to this node, up to and including its reply (R141, R142, R147, R156, R157): an OFFLINE node takes
nothing; a request whose slot finds no room meets the busy mark and is not taken; otherwise an entry is reserved, if an
event within the slot has not found it so already, the source's silence timer restarts, the owning block acts, the reply
fills the entry, and what the action set going follows. -/
def State.request (src num : Nat) (k : RequestKind) (act : State → State × Reply) (after : State → State) (s : State) :
    State :=
  if s.link.state = .offline then s.afterSlot SlotMarks.none
  else
    let s1 := if src = s.self then s else s.attemptLost
    if s1.hasRoom = false then
      s1.slotRejects (decide (src = s.self)) SlotMarks.busy
    else if src = s.self then s1.clash
    else
      let r := act (((s1.afterSlot SlotMarks.none).hear src .alive).reserve true)
      after (r.1.fill (r.2.frame src num k.code))

end Sys2Proof.Machine
end

