-- ==== Sys2Proof/Machine/Attempts.lean ====
section
/-! DEFINITION. The ends of an attempt of this node's own frame (R138, R143 to R145, R153), and the idle bus (R136, R137,
R146). -/

namespace Sys2Proof.Machine

/-- This node's own attempt ends rejected, with the marks this node drove in its slot (R143). Without an attempt in hand there
is no such slot. -/
def State.ownRejected (m : SlotMarks) (s : State) : State := if s.fq.sending = none then s else s.slotRejects true m

/-- This node's own attempt ends with ADDRESSEE-BUSY alone (R143, R145). This node's own frame asks it for no reply, so a
reservation still standing is over (R156). Without an attempt in hand there is no such end. -/
def State.ownBusy (s : State) : State :=
  if s.fq.sending = none then s else ((s.afterSlot SlotMarks.none).unreserved.attemptBusy).finish

/-- The marks of this node in the slot of a rejected attempt: its own CHECK-REJECT, when its own check failed, that of a
sender that dropped out among them, since it judges the rest of the frame like any listener (R139, R140). -/
def RejectedBy.marks : Sys2Proof.RejectedBy → SlotMarks
  | .ownCheck => SlotMarks.reject
  | .otherParty => SlotMarks.none
  | .dropOut checkFailed => { checkReject := checkFailed, addresseeBusy := false }

/-- The meaning of OWN_FRAME_TAKEN (R143, R153). -/
def execOwnFrameTaken (s : State) : Host.Outcome State Fault Refusal := .next s.ownTaken

/-- The meaning of LOST_IN_ARBITRATION (R138). -/
def execLostInArbitration (s : State) : Host.Outcome State Fault Refusal := .next s.attemptLost

/-- The meaning of REJECTED (R139, R143). The count decides whether the frame is queued again or discarded (R144). -/
def execRejected (how : Sys2Proof.RejectedBy) (s : State) : Host.Outcome State Fault Refusal :=
  .next (s.ownRejected (RejectedBy.marks how))

/-- The meaning of DISCARDED: an attempt that ends rejected, with this node's marks in its slot, at the fourth of which in a
row the frame in hand is discarded (R140, R144). -/
def execDiscarded (s : State) (how : Sys2Proof.RejectedBy := .otherParty) : Host.Outcome State Fault Refusal :=
  .next (s.ownRejected (RejectedBy.marks how))

/-- The meaning of REFUSED_AS_BUSY (R143, R145). The busy count decides whether the frame is queued again or dropped. -/
def execRefusedAsBusy (s : State) : Host.Outcome State Fault Refusal := .next s.ownBusy

/-- The meaning of DROPPED: an attempt of a REPLY frame that ends busy, at the sixteenth of which the frame is dropped
(R145). -/
def execDropped (s : State) : Host.Outcome State Fault Refusal := .next s.ownBusy

/-- At an idle after power-on, a node with an address leaves OFFLINE for ACTIVE and its beacon timer starts (R119, R120,
R146). -/
def State.leaveOffline (s : State) : State :=
  if s.link.state = .offline ∧ s.link.addrValid = true then
    (s.updLink fun l => { l with state := .active }).restartBeacon
  else s

/-- The bus becomes idle, and the Frame Queue offers (R136, R137, R146, R152). While a frame is in progress, this node's own
or another party's, or while RESET is asserted, this does not come about. -/
def State.idle (s : State) : State :=
  if s.link.inReset = true ∨ s.link.inFrame = true then s
  else ((s.updLink fun l => { l with idleCount := Config.idleBits }).leaveOffline).offer

/-- The meaning of BUS_IDLE (R136). -/
def execBusIdle (s : State) : Host.Outcome State Fault Refusal := .next s.idle

/-- A dominant bit restarts the idle count at 0 while it is below 12 with no frame in progress; once the bus is idle such a
bit is the start mark of another party's frame, which ends the idle and puts that frame in progress, so that an entry of
this node waits for the next idle; a bit of a frame in progress is not one outside a frame (R136, R137; the start mark told
by this command is a DESIGN CHOICE, notes/assumptions/20.md). -/
def State.dominantBit (s : State) : State :=
  if s.link.inFrame then s
  else if s.link.idleCount < Config.idleBits then s.updLink fun l => { l with idleCount := 0 }
  else s.updLink fun l => { l with idleCount := 0, inFrame := true }

/-- The meaning of DOMINANT_BIT_OUTSIDE_FRAME (R136). -/
def execDominantBitOutsideFrame (s : State) : Host.Outcome State Fault Refusal := .next s.dominantBit

end Sys2Proof.Machine
end

