-- ==== Sys2Proof/Machine/Operands.lean ====
section
/-! DEFINITION. The judgement of the fields a request carries: the ordered LOAD checks (R6 to R8), the records of CONFIG
(R124 to R129), and the contents of a STATUS (R159 to R161). -/

namespace Sys2Proof.Machine

/-! ## LOAD -/

/-- A gate's fields lie in their ranges (R7). -/
def gateInRange (g : GateField) : Bool := within 1 30 g.source && within 1 65535 g.tag && within 0 1 g.marker

/-- A marker's fields lie in their ranges, for a lead of length `L`; its line is none, MKO0 or MKO1 (R7, R163). -/
def markerInRange (L : Nat) (m : MarkerField) : Bool :=
  within 0 1 m.number && within 1 L m.position && within 0 2 m.line

/-- Check 1 of R6: some field is outside its range (R7). -/
def loadBadField (f : LoadFields) : Bool :=
  decide (f.tag = 0) ||
  (match f.group with | some g => !within 1 62 g | none => false) ||
  !within 0 1 f.kind ||
  !within 0 3 f.slot ||
  !within 1 Config.maxLead f.leadLength ||
  decide (Config.maxLead < f.distance.toInt.natAbs) ||
  (decide (f.kind = 1) && decide (f.distance.toInt.natAbs ≠ f.leadLength)) ||
  decide (2 < f.gates.length) ||
  !f.gates.all gateInRange ||
  !decide f.gates.Nodup ||
  (match f.waitLimit with | some w => f.gates.isEmpty || decide (w = 0) | none => false) ||
  decide (2 < f.markers.length) ||
  !f.markers.all (markerInRange f.leadLength) ||
  !decide (f.markers.map (·.number)).Nodup

/-- The marks that the gates of these entries name (R7). -/
def gatesOf (ms : List Move) : List Gate := ms.flatMap (·.gates)

/-- The output line of a code (R163). -/
def lineOf : Nat → Option MarkerLine
  | 1 => some .mko0 | 2 => some .mko1 | _ => none

/-- The entry that an accepted LOAD appends: the origin is the source of the frame, the rest is copied (R2). -/
def moveOf (src : Addr) (f : LoadFields) : Move :=
  { tag := f.tag, origin := src, group := f.group, kind := if f.kind = 1 then .seek else .travel, slot := f.slot,
    lead := f.leadLength, dist := f.distance.toInt,
    gates := f.gates.map fun g => { source := g.source, tag := g.tag, marker := g.marker },
    waitLimit := f.waitLimit,
    markers := f.markers.map fun m => { number := m.number, position := m.position, line := lineOf m.line },
    withdrawnBy := false }

/-- Check 9 of R6: the planned end position with the new move added lies outside the soft limits, when both are present
(R8). -/
def State.endsOutside (s : State) (m : Move) : Bool :=
  match s.plannedEnd with
  | some x => decide (m.kind = .travel) && s.outsideSoft (x + m.dist)
  | none => false

/-- The LOAD checks in their order, each with the reason it refuses with (R6). -/
def State.loadChecks (s : State) (f : LoadFields) (m : Move) : List (Bool × NakReason) :=
  [ (loadBadField f, .badField),
    (!(s.profileOf m).isDefined, .undefinedProfile),
    (decide (m.kind = .seek) && m.group.isSome, .soloOnly),
    (decide (m.lead < m.dist.natAbs), .distanceExceedsLead),
    (match m.group with | some g => (s.groupEntry g).isNone | none => false, .unknownGroup),
    (s.mc.queue.any fun x => decide (x.tag = m.tag), .duplicateTag),
    (decide (Config.queueDepth ≤ s.mc.queue.length), .queueFull),
    (decide (Config.markListDepth < (gatesOf (s.unstarted ++ [m])).dedup.length), .gatesFull),
    (s.endsOutside m, .softLimit) ]

/-! ## CONFIG records -/

/-- The checks of a GROUP record in their order (R124). -/
def State.groupChecks (s : State) (g : Nat) (ms : List Nat) : List (Bool × NakReason) :=
  [ (!(within 1 62 g && within 2 30 ms.length && ms.all (within 1 30) && decide ms.Nodup), .badField),
    (!decide (s.self ∈ ms), .badField),
    (!(s.store.groups.any fun r => decide (r.number = g)) && !decide (s.store.groups.length < Config.groupRecords),
      .tableFull) ]

/-- A member set in ascending order of address (R160). -/
def ascendingAddrs (ms : List Nat) : List Addr := (List.range 31).filter fun a => decide (a ∈ ms)

/-- Store a GROUP record: it replaces the one of its number, or joins at the end (R123, R124). -/
def putGroup (r : GroupRecord) (rs : List GroupRecord) : List GroupRecord :=
  if rs.any fun x => decide (x.number = r.number) then rs.map fun x => if x.number = r.number then r else x
  else rs ++ [r]

/-- A rate in its range (00_scope.md; R61). -/
def rateOk (n : Nat) : Bool := within 16 200000 n

/-- The kind of a LINEAR or SCURVE record by its code (R125, R163). -/
def rampKindOf : Nat → Option RampKind
  | 0 => some .linear | 1 => some .scurve | _ => none

/-- A LINEAR or SCURVE record's fields are in range (R125). -/
def rampFieldsOk (slot rs rc a : Nat) : Bool :=
  within 0 3 slot && rateOk rs && rateOk rc && decide (rs ≤ rc) && within 1 65535 a

/-- The count of a table entry at 1-based index `i` of `n`: 1..4095, and 0 at index n (R126). -/
def countOk (n i count : Nat) : Bool := if i = n then decide (count = 0) else within 1 4095 count

/-- The entries of a part, from 1-based index `i` on, have rates and counts in range (R126). -/
def partEntriesOk (n : Nat) : Nat → List (Nat × Nat) → Bool
  | _, [] => true
  | i, e :: es => rateOk e.1 && countOk n i e.2 && partEntriesOk n (i + 1) es

/-- Stage 1 of R126: a part's own fields. -/
def partOk (slot n start : Nat) (es : List (Nat × Nat)) : Bool :=
  within 0 3 slot && within 2 32 n && within 1 n start && within 1 5 es.length &&
  decide (start + es.length ≤ n + 1) && partEntriesOk n start es

/-- Write entries from 0-based place `k` on, over those already there. -/
def writeAt : List (Option TableEntry) → Nat → List TableEntry → List (Option TableEntry)
  | [], _, _ => []
  | e :: es, k + 1, ns => e :: writeAt es k ns
  | es, 0, [] => es
  | _ :: es, 0, n :: ns => some n :: writeAt es 0 ns

/-- The entries a part is written over: those of a table with the same n, or none (R126). -/
def tableBase (x : Slot) (n : Nat) : List (Option TableEntry) :=
  match x with
  | .table es => if es.length = n then es else List.replicate n none
  | _ => List.replicate n none

/-- The slot's entries as they stand after a part is written (R126). -/
def tableAfter (x : Slot) (n start : Nat) (es : List (Nat × Nat)) : List (Option TableEntry) :=
  writeAt (tableBase x n) (start - 1) (es.map fun e => { rate := e.1, count := e.2 })

/-- Rates that rise strictly. -/
def rising : List Nat → Bool
  | a :: b :: rest => decide (a < b) && rising (b :: rest)
  | _ => true

/-- Stage 2 of R126: the table a part would leave has strictly rising rates, and the counts of its present entries, the last
of them excluded, sum to at most 65,535. -/
def tableOk (es : List (Option TableEntry)) : Bool :=
  rising ((presentEntries es).map (·.rate)) && decide (((presentEntries es).map (·.count)).dropLast.sum ≤ 65535)

/-- A TIMING record's fields are in range (R128). -/
def timingOk (b l r : Nat) : Bool := within 5 500 b && within 10 2000 l && (decide (r = 0) || within 10 60000 r)

/-- The INPUTS record of these codes and home value; a code other than LOW or HIGH makes none (R129). -/
def inputsOf (a b c d e : Nat) (h : Signed32) : Option InputsRecord :=
  match levelOf a, levelOf b, levelOf c, levelOf d, levelOf e with
  | some a, some b, some c, some d, some e =>
    some { limp := a, limn := b, home := c, dalm := d, stopin := e, homeValue := h.toInt }
  | _, _, _, _, _ => none

/-! ## QUERY -/

/-- How many entries of the Peer Table have a presence (R108). -/
def State.peersThat (s : State) (p : Presence) : Nat := s.peer.peers.countP fun e => decide (e.presence = p)

/-- The contents of a STATUS for subject NODE (R159). -/
def State.nodeStatus (s : State) : NodeStatus :=
  { state := s.mc.state, causes := s.mc.causes, holdPending := s.mc.holdPending, position := s.lead.position,
    plannedEnd := s.plannedEnd, depth := s.mc.queue.length, headTag := s.head.map (·.tag),
    motion := if s.mc.state.moving then
        some (s.lead.p, match s.lead.step with | some x => x.rate | none => 0)
      else none,
    soloScale := s.lead.soloScale, link := s.link.state, present := s.peersThat .present, absent := s.peersThat .absent,
    unready := s.peersThat .unready }

/-- The line of one member: this node's own gives PRESENT and its own node state (R160). -/
def State.memberLine (s : State) (r : RollEntry) : MemberLine :=
  if r.addr = s.self then { addr := r.addr, tag := r.tag, presence := .present, lastState := some s.mc.state }
  else match s.peerEntry r.addr with
    | some e => { addr := r.addr, tag := r.tag, presence := e.presence, lastState := e.lastState }
    | none => { addr := r.addr, tag := r.tag, presence := .unseen, lastState := none }

/-- The contents of a STATUS for subject GROUP from 1-based index `i`: up to 6 lines (R160). -/
def State.groupStatus (s : State) (e : GroupEntry) (i : Nat) : GroupStatus :=
  { group := e.number, state := e.state, scale := e.scale, members := e.roll.length,
    lines := ((e.roll.drop (i - 1)).take 6).map s.memberLine }

/-- The gate count of an entry: its gates with no REACHED record, and 0 for a head that has started (R161). -/
def State.openGates (s : State) (started : Bool) (m : Move) : Nat :=
  if started then 0 else m.gates.countP fun g => !g.satisfied s.gate.marks

/-- The line of one queue entry (R161). -/
def State.queueLine (s : State) (started : Bool) (m : Move) : QueueLine :=
  { tag := m.tag, group := m.group, kind := m.kind, dist := m.dist, openGates := s.openGates started m,
    withdrawn := m.withdrawnBy }

/-- The lines of the queue: the head has started while the node is RUNNING or STOPPING (R161). -/
def State.queueLines (s : State) : List QueueLine :=
  match s.mc.queue with
  | [] => []
  | m :: rest => s.queueLine s.mc.state.moving m :: rest.map (s.queueLine false)

/-- The contents of a STATUS for subject QUEUE from 1-based index `i`: up to 3 entries (R161). -/
def State.queueStatus (s : State) (i : Nat) : QueueStatus :=
  { depth := s.mc.queue.length, lines := (s.queueLines.drop (i - 1)).take 3 }

end Sys2Proof.Machine
end

