-- ==== Sys2Proof/Machine/Configuration.lean ====
section
/-! DEFINITION. The configuration commands: the CONFIG records (R123 to R129), COMMIT (R130, R131) and RESTART (R134). -/

namespace Sys2Proof.Machine

/-- A refusal that changes no state (R157). -/
def State.refuse (r : NakReason) (s : State) : State × Reply := (s, .nak r)

/-- A CONFIG record in the hands of the Configuration Store: BAD_STATE once committed; otherwise the first check that fails
refuses it, and a record that passes is stored with an ACK without detail (R123). -/
def State.configure (checks : List (Bool × NakReason)) (store : Store → Store) (s : State) : State × Reply :=
  if s.store.committed then s.refuse .badState
  else match firstFailing checks with
    | some r => s.refuse r
    | none => (s.updStore store, .ack none)

/-! ## CONFIG GROUP -/

/-- CONFIG GROUP (R123, R124). -/
def doConfigGroup (src num group : Nat) (members : List Nat) (s : State) : State :=
  s.request src num .config
    (fun s => s.configure (s.groupChecks group members)
      fun c => { c with groups := putGroup { number := group, members := members } c.groups }) State.offer

/-- The meaning of CONFIG_GROUP. -/
def execConfigGroup (src num group : Nat) (members : List Nat) (s : State) : Host.Outcome State Fault Refusal :=
  .next (doConfigGroup src num group members s)

/-! ## CONFIG PROFILE, LINEAR or SCURVE -/

/-- Store a LINEAR or SCURVE profile in a slot (R125). -/
def putRamp (slot kind rs rc a : Nat) (c : Store) : Store :=
  match rampKindOf kind with
  | some k => { c with slots := c.slots.set slot (.ramp k rs rc a) }
  | none => c

/-- CONFIG PROFILE of kind LINEAR or SCURVE; any other kind is refused (R123, R125). -/
def doConfigProfile (src num slot kind startRate cruiseRate rampLength : Nat) (s : State) : State :=
  s.request src num .config
    (State.configure
      [(!((rampKindOf kind).isSome && rampFieldsOk slot startRate cruiseRate rampLength), .badField)]
      (putRamp slot kind startRate cruiseRate rampLength)) State.offer

/-- The meaning of CONFIG_PROFILE. -/
def execConfigProfile (src num slot kind startRate cruiseRate rampLength : Nat) (s : State) :
    Host.Outcome State Fault Refusal :=
  .next (doConfigProfile src num slot kind startRate cruiseRate rampLength s)

/-! ## CONFIG PROFILE, one part of a TABLE -/

/-- CONFIG PROFILE of kind TABLE: the part is checked in the two stages of R126 and written. -/
def doConfigProfileTablePart (src num slot count start : Nat) (entries : List (Nat × Nat)) (s : State) : State :=
  s.request src num .config
    (fun s => s.configure
      [(!partOk slot count start entries, .badField),
       (!tableOk (tableAfter (s.store.slots.get slot) count start entries), .badField)]
      fun c => { c with slots := c.slots.set slot (.table (tableAfter (c.slots.get slot) count start entries)) })
    State.offer

/-- The meaning of CONFIG_PROFILE_TABLE_PART. -/
def execConfigProfileTablePart (src num slot count start : Nat) (entries : List (Nat × Nat)) (s : State) :
    Host.Outcome State Fault Refusal :=
  .next (doConfigProfileTablePart src num slot count start entries s)

/-! ## CONFIG LIMITS, TIMING and INPUTS -/

/-- CONFIG LIMITS (R127). -/
def doConfigLimits (src num : Nat) (softMin softMax : Signed32) (s : State) : State :=
  s.request src num .config
    (State.configure [(!decide (softMin.toInt < softMax.toInt), .badField)]
      fun c => { c with limits := some { softMin := softMin.toInt, softMax := softMax.toInt } }) State.offer

/-- The meaning of CONFIG_LIMITS. -/
def execConfigLimits (src num : Nat) (softMin softMax : Signed32) (s : State) : Host.Outcome State Fault Refusal :=
  .next (doConfigLimits src num softMin softMax s)

/-- CONFIG TIMING (R128). -/
def doConfigTiming (src num beaconMs lossMs rollMs : Nat) (s : State) : State :=
  s.request src num .config
    (State.configure [(!timingOk beaconMs lossMs rollMs, .badField)]
      fun c => { c with timing := some { beacon := beaconMs, loss := lossMs, roll := rollMs } }) State.offer

/-- The meaning of CONFIG_TIMING. -/
def execConfigTiming (src num beaconMs lossMs rollMs : Nat) (s : State) : Host.Outcome State Fault Refusal :=
  .next (doConfigTiming src num beaconMs lossMs rollMs s)

/-- CONFIG INPUTS (R129). -/
def doConfigInputs (src num limp limn home dalm stopin : Nat) (homeValue : Signed32) (s : State) : State :=
  s.request src num .config
    (State.configure [((inputsOf limp limn home dalm stopin homeValue).isNone, .badField)]
      fun c => { c with inputs := inputsOf limp limn home dalm stopin homeValue }) State.offer

/-- The meaning of CONFIG_INPUTS. -/
def execConfigInputs (src num limp limn home dalm stopin : Nat) (homeValue : Signed32) (s : State) :
    Host.Outcome State Fault Refusal :=
  .next (doConfigInputs src num limp limn home dalm stopin homeValue s)

/-- A CONFIG request of a record type outside the five (R123, R166). -/
def doConfigUnknown (src num : Nat) (s : State) : State :=
  s.request src num .config (State.configure [(true, .badField)] id) State.offer

/-! ## COMMIT -/

/-- A slot is DEFINED (check 1 of R130). -/
def Slots.anyDefined (x : Slots) : Bool := x.s0.isDefined || x.s1.isDefined || x.s2.isDefined || x.s3.isDefined

/-- A PARTIAL slot becomes EMPTY (R131). -/
def Slot.fixed (x : Slot) : Slot := if x.isPartial then .empty else x

/-- The slots as an accepted COMMIT fixes them (R131). -/
def Slots.fixed (x : Slots) : Slots := { s0 := x.s0.fixed, s1 := x.s1.fixed, s2 := x.s2.fixed, s3 := x.s3.fixed }

/-- The entry of the group table for a GROUP record: FORMING, every roll entry empty, scale 100 (R25, R131). -/
def GroupRecord.entry (r : GroupRecord) : GroupEntry :=
  { number := r.number, state := .forming, roll := (ascendingAddrs r.members).map fun a => { addr := a, tag := none },
    scale := 100 }

/-- The Peer Table an accepted COMMIT builds: one UNSEEN entry for each distinct peer named in a member set (R108, R131). -/
def peersOf (self : Addr) (rs : List GroupRecord) : List PeerEntry :=
  ((ascendingAddrs (rs.flatMap (·.members))).filter fun a => decide (a ≠ self)).map fun a =>
    { addr := a, presence := .unseen, lastState := none, timer := none }

/-- The COMMIT checks in their order (R130). -/
def State.commitChecks (s : State) : List (Bool × NakReason) :=
  [ (decide (s.mc.state ≠ .unconfigured), .badState),
    (!s.store.slots.anyDefined, .noProfile),
    (decide (s.store.timingOrDefault.loss < 2 * s.store.timingOrDefault.beacon), .badTiming) ]

/-- What an accepted COMMIT builds and puts into effect, up to the state IDLE (R131). -/
def State.commitBuild (s : State) : State :=
  let s1 := s.updStore fun c => { c with slots := c.slots.fixed, committed := true }
  let s2 := s1.updRoll fun r => { r with groups := s.store.groups.map GroupRecord.entry }
  let s3 := s2.updPeer fun t => { t with peers := peersOf s.self s.store.groups }
  let s4 := s3.updLead fun l => { l with soloScale := 100 }
  let s5 := s4.updOut fun o => { o with dren := true }
  s5.updMc fun m => { m with state := .idle, queue := [], causes := 0, holdPending := false }

/-- A registered level of DALM or STOPIN that stands asserted at COMMIT is treated as an assertion at that instant: DREN
goes inactive, and the node is HELD with the cause (R98, R131). -/
def State.judgeInput (i : InputName) (c : Cause) (s : State) : State :=
  if s.asserted i then (s.updOut fun o => { o with dren := false }).hold c else s

/-- A link that is BLOCKED at COMMIT gives the LINK cause (R101, R131). -/
def State.judgeBlocked (s : State) : State := if s.link.state = .blocked then s.takeLink else s

/-- The effect of an accepted COMMIT (R98, R101, R131). -/
def State.commitEffect (s : State) : State :=
  ((s.commitBuild.judgeInput .dalm .driveAlarm).judgeInput .stopin .stopInput).judgeBlocked

/-- COMMIT (R130, R131). -/
def doCommit (src num : Nat) (s : State) : State :=
  s.request src num .commit
    (fun s => match firstFailing s.commitChecks with
      | some r => s.refuse r
      | none => (s.commitEffect, .ack none)) State.offer

/-- The meaning of COMMIT. -/
def execCommit (src num : Nat) (s : State) : Host.Outcome State Fault Refusal := .next (doCommit src num s)

/-! ## RESTART -/

/-- RESTART is accepted in UNCONFIGURED, IDLE, PENDING and HELD (R134). -/
def restartable : NodeState → Bool
  | .unconfigured => true | .idle => true | .pending => true | .held => true | _ => false

/-- The effect of an accepted RESTART: the power-on state of every block, but for the position, the DIR level, the Link
Controller with its straps, and the running beacon timer (R119, R134). The input lines and the count of STEP pulses are
outside facts and stay. That the beacon timer runs on from the take until it restarts at the take of the ACK, where R121's
Peer Table has it stopped, is a DESIGN CHOICE (notes/assumptions/29.md). -/
def State.restarted (s : State) : State :=
  { State.powerOn s.link.addr s.link.rate s.inp s.pending with
    link := s.link
    lead := Lead.powerOn s.lead.position
    out := { Outputs.powerOn with stepPulses := s.out.stepPulses, dir := s.out.dir }
    peer := { PeerTable.powerOn with beaconTimer := s.peer.beaconTimer } }

/-- RESTART (R24, R134). -/
def doRestart (src num : Nat) (s : State) : State :=
  s.request src num .restart
    (fun s => if restartable s.mc.state then (s.restarted, .ack none) else s.refuse .badState) State.offer

/-- The meaning of RESTART. -/
def execRestart (src num : Nat) (s : State) : Host.Outcome State Fault Refusal := .next (doRestart src num s)

end Sys2Proof.Machine
end

