-- ==== Sys2Proof/Machine/Requests.lean ====
section
/-! DEFINITION. The requests of a configured node: LOAD (R5 to R8), FLUSH (R9), STOP (R103), RESUME (R105), SETPOS (R78),
the node-addressed SCALE (R84) and QUERY (R159 to R161). -/

namespace Sys2Proof.Machine

/-! ## LOAD -/

/-- The move joins the queue at the tail. Into an empty queue it becomes head, its gate wait timer starts if it must wait,
and an IDLE node enters PENDING (R3, R5, R56). -/
def State.append (m : Move) (s : State) : State :=
  match s.mc.queue with
  | [] =>
    (s.updGate fun g => { g with timer := headTimer g.marks [m] }).updMc
      fun x => { x with queue := [m], state := if x.state = .idle then .pending else x.state }
  | _ => s.updMc fun x => { x with queue := x.queue ++ [m] }

/-- LOAD in the hands of the Move Controller (R5, R6). -/
def State.loadAct (src : Addr) (f : LoadFields) (s : State) : State × Reply :=
  if s.mc.state = .unconfigured then s.refuse .notConfigured
  else match firstFailing (s.loadChecks f (moveOf src f)) with
    | some r => s.refuse r
    | none => (s.append (moveOf src f), .ack (some (s.mc.queue.length + 1)))

/-- LOAD (R5). -/
def doLoad (src num : Nat) (fields : LoadFields) (s : State) : State :=
  s.request src num .load (State.loadAct src fields) State.finish

/-- The meaning of LOAD. -/
def execLoad (src num : Nat) (fields : LoadFields) (s : State) : Host.Outcome State Fault Refusal :=
  .next (doLoad src num fields s)

/-! ## FLUSH -/

/-- Every entry is removed without retirement; the gate wait timer stops and the mark list is emptied; a PENDING node enters
IDLE (R9, R60). -/
def State.flushQueue (s : State) : State :=
  (s.updGate fun g => { g with marks := [], timer := none }).updMc
    fun x => { x with queue := [], deferredExpiry := false, state := if x.state = .pending then .idle else x.state }

/-- FLUSH in the hands of the Move Controller (R9). -/
def State.flushAct (s : State) : State × Reply :=
  match s.mc.state with
  | .unconfigured => s.refuse .notConfigured
  | .idle => (s.flushQueue, .ack (some s.mc.queue.length))
  | .pending => (s.flushQueue, .ack (some s.mc.queue.length))
  | .held => (s.flushQueue, .ack (some s.mc.queue.length))
  | _ => s.refuse .badState

/-- FLUSH (R9). -/
def doFlush (src num : Nat) (s : State) : State := s.request src num .flush State.flushAct State.offer

/-- The meaning of FLUSH. -/
def execFlush (src num : Nat) (s : State) : Host.Outcome State Fault Refusal := .next (doFlush src num s)

/-! ## STOP -/

/-- An announced head is given up HALTED, and its group is told by a notice and not by a WITHDRAW (R103, R104). -/
def State.stopAnnounced (s : State) : State :=
  match s.head with
  | some m => (s.giveUp .halted .stationStop []).notify m .now .stationStop false
  | none => s

/-- A STOP of kind `k` by the node state (R103, R104). -/
def State.stopEffect (k : HaltKind) (s : State) : State :=
  match s.mc.state with
  | .unconfigured => s
  | .idle => s.hold .stationStop
  | .pending => s.hold .stationStop
  | .announcing => s.stopAnnounced
  | .armed => s.stopAnnounced
  | .running => match k with
    | .ramp => s.rampMove .stationStop
    | .now => s.stopMove .stationStop false
  | .stopping => match k with
    | .ramp => s.addCause .stationStop
    | .now => s.stopMove .stationStop false
  | .held => s

/-- STOP in the hands of the Move Controller (R103). -/
def State.stopAct (kind : Nat) (s : State) : State × Reply :=
  if s.mc.state = .unconfigured then s.refuse .notConfigured
  else match haltKindOf kind with
    | none => s.refuse .badField
    | some k => (s.stopEffect k, .ack none)

/-- STOP (R103). -/
def doStop (src num kind : Nat) (s : State) : State := s.request src num .stop (State.stopAct kind) State.finish

/-- The meaning of STOP. -/
def execStop (src num kind : Nat) (s : State) : Host.Outcome State Fault Refusal := .next (doStop src num kind s)

/-! ## RESUME -/

/-- A cause that keeps the node HELD: DALM or STOPIN asserted, or LINK held with the link not ACTIVE (R105). -/
def State.causePersists (s : State) : Bool :=
  s.asserted .dalm || s.asserted .stopin || (holdsCause s.mc.causes .link && decide (s.link.state ≠ .active))

/-- The effect of an accepted RESUME: no cause, no hold-pending, DREN active, PENDING or IDLE (R83, R105). -/
def State.resumed (s : State) : State :=
  (s.updOut fun o => { o with dren := true }).updMc
    fun m => { m with causes := 0, holdPending := false, state := stateAfter 0 false m.queue }

/-- RESUME in the hands of the Move Controller (R105). -/
def State.resumeAct (s : State) : State × Reply :=
  if s.mc.state ≠ .held then s.refuse .badState
  else if s.causePersists then s.refuse .causePersists
  else (s.resumed, .ack none)

/-- RESUME (R105). -/
def doResume (src num : Nat) (s : State) : State := s.request src num .resume State.resumeAct State.finish

/-- The meaning of RESUME. -/
def execResume (src num : Nat) (s : State) : Host.Outcome State Fault Refusal := .next (doResume src num s)

/-! ## SETPOS and SCALE -/

/-- SETPOS is accepted in IDLE, PENDING and HELD (R78). -/
def positionSettable : NodeState → Bool
  | .idle => true | .pending => true | .held => true | _ => false

/-- SETPOS in the hands of the Lead Generator (R78). -/
def State.setposAct (value : Signed32) (s : State) : State × Reply :=
  if positionSettable s.mc.state then (s.updLead fun l => { l with position := value.toInt }, .ack none)
  else s.refuse .badState

/-- SETPOS (R78). -/
def doSetpos (src num : Nat) (value : Signed32) (s : State) : State :=
  s.request src num .setpos (State.setposAct value) State.offer

/-- The meaning of SETPOS. -/
def execSetpos (src num : Nat) (value : Signed32) (s : State) : Host.Outcome State Fault Refusal :=
  .next (doSetpos src num value s)

/-- A percent that a scale takes (R27, R84). -/
def percentOk (p : Nat) : Bool := within 5 100 p

/-- The cap is computed again for the running move, while the phase is RUN (R67, R71). -/
def State.recap (s : State) : State :=
  match s.head with
  | some m => if s.lead.phase = .run then s.updLead fun l => { l with cap := some ((s.profileOf m).cap (s.scaleOf m)) } else s
  | none => s

/-- The node-addressed SCALE in the hands of the Lead Generator: the solo scale is stored, and the cap of a running solo
move follows it (R71, R84, R85). -/
def State.scaleAct (percent : Nat) (s : State) : State × Reply :=
  if s.mc.state = .unconfigured then s.refuse .notConfigured
  else if !percentOk percent then s.refuse .badField
  else
    let s1 := s.updLead fun l => { l with soloScale := percent }
    (if s1.headGroup = none then s1.recap else s1, .ack none)

/-- SCALE addressed to this node (R84). -/
def doScale (src num percent : Nat) (s : State) : State :=
  s.request src num .scale (State.scaleAct percent) State.offer

/-- The meaning of SCALE. -/
def execScale (src num percent : Nat) (s : State) : Host.Outcome State Fault Refusal := .next (doScale src num percent s)

/-! ## QUERY -/

/-- QUERY NODE (R159). -/
def doQueryNode (src num : Nat) (s : State) : State :=
  s.request src num .query (fun s => (s, .status (.node s.nodeStatus))) State.offer

/-- The meaning of QUERY_NODE. -/
def execQueryNode (src num : Nat) (s : State) : Host.Outcome State Fault Refusal := .next (doQueryNode src num s)

/-- QUERY GROUP in the hands of the Request Handler: the ranges first, then the group table (R160). -/
def State.queryGroupAct (group index : Nat) (s : State) : State × Reply :=
  if !(within 1 62 group && within 1 30 index) then s.refuse .badField
  else match s.groupEntry group with
    | none => s.refuse .unknownGroup
    | some e => (s, .status (.group (s.groupStatus e index)))

/-- QUERY GROUP (R160). -/
def doQueryGroup (src num group index : Nat) (s : State) : State :=
  s.request src num .query (State.queryGroupAct group index) State.offer

/-- The meaning of QUERY_GROUP. -/
def execQueryGroup (src num group index : Nat) (s : State) : Host.Outcome State Fault Refusal :=
  .next (doQueryGroup src num group index s)

/-- QUERY QUEUE in the hands of the Request Handler (R161). -/
def State.queryQueueAct (index : Nat) (s : State) : State × Reply :=
  if !within 1 16 index then s.refuse .badField else (s, .status (.queue (s.queueStatus index)))

/-- QUERY QUEUE (R161). -/
def doQueryQueue (src num index : Nat) (s : State) : State :=
  s.request src num .query (State.queryQueueAct index) State.offer

/-- The meaning of QUERY_QUEUE. -/
def execQueryQueue (src num index : Nat) (s : State) : Host.Outcome State Fault Refusal :=
  .next (doQueryQueue src num index s)

/-- A QUERY of a subject outside the three (R159, R166). -/
def doQueryUnknown (src num : Nat) (s : State) : State :=
  s.request src num .query (State.refuse .badField) State.offer

end Sys2Proof.Machine
end

