-- ==== Sys2Proof/Machine/Coordination.lean ====
section
/-! DEFINITION. The frames of coordination that are taken from the bus (R142): READY, WITHDRAW, HALT, MARK, the
group-addressed SCALE, BEACON, and the frames that act at the Peer Table only. -/

namespace Sys2Proof.Machine

/-- READY(g, t) taken (R29). -/
def doReadyTaken (src group tag : Nat) (s : State) : State :=
  s.takeFrom src (fun f => decide (f = .ready group tag))
    fun s => ((s.hear src .configured).readyTake src group tag).finish

/-- The meaning of READY_TAKEN. -/
def execReadyTaken (src group tag : Nat) (s : State) : Host.Outcome State Fault Refusal :=
  .next (doReadyTaken src group tag s)

/-- WITHDRAW(g, t, cause) taken (R30). -/
def doWithdrawTaken (src group tag : Nat) (cause : Cause) (s : State) : State :=
  s.takeFrom src (fun f => decide (f = .withdraw group tag cause))
    fun s => ((s.hear src .configured).withdrawTake src group tag).finish

/-- The meaning of WITHDRAW_TAKEN. -/
def execWithdrawTaken (src group tag : Nat) (cause : Cause) (s : State) : Host.Outcome State Fault Refusal :=
  .next (doWithdrawTaken src group tag cause s)

/-- HALT(kind, cause, tag) for a group taken: neither the cause nor the tag it carries enters the node (R86, R88). -/
def doHaltTaken (src group : Nat) (kind : HaltKind) (cause : Cause) (tag : Option Nat) (s : State) : State :=
  s.takeFrom src (fun f => match tag with | some t => decide (f = .halt group kind cause t) | none => false)
    fun s => ((s.hear src .configured).haltTake src group kind).finish

/-- The meaning of HALT_TAKEN. -/
def execHaltTaken (src group : Nat) (kind : HaltKind) (cause : Cause) (tag : Option Nat) (s : State) :
    Host.Outcome State Fault Refusal :=
  .next (doHaltTaken src group kind cause tag s)

/-- MARK(t, n, outcome) taken (R52). -/
def doMarkTaken (src tag marker : Nat) (outcome : MarkOutcome) (s : State) : State :=
  s.takeFrom src (fun f => decide (f = .mark tag marker outcome))
    fun s => ((s.hear src .configured).markTake src tag marker outcome).finish

/-- The meaning of MARK_TAKEN. -/
def execMarkTaken (src tag marker : Nat) (outcome : MarkOutcome) (s : State) : Host.Outcome State Fault Refusal :=
  .next (doMarkTaken src tag marker outcome s)

/-- The Roll Unit at a SCALE for a group: a percent in range is stored as the group scale, and the cap of a running move of
the group follows it (R26, R27, R71, R85). -/
def State.groupScaleTake (g percent : Nat) (s : State) : State :=
  if percentOk percent then
    let s1 := s.updGroup g fun e => { e with scale := percent }
    match s.groupEntry g with
    | some _ => if s1.headGroup = some g then s1.recap else s1
    | none => s
  else s

/-- SCALE for a group taken (R27). -/
def doGroupScaleTaken (src group percent : Nat) (s : State) : State :=
  s.takeFrom src (fun _ => false) fun s => ((s.hear src .alive).groupScaleTake group percent).offer

/-- The meaning of GROUP_SCALE_TAKEN. -/
def execGroupScaleTaken (src group percent : Nat) (s : State) : Host.Outcome State Fault Refusal :=
  .next (doGroupScaleTaken src group percent s)

/-- BEACON taken; its queue depth is not kept (R109). -/
def doBeaconTaken (src : Nat) (state : NodeState) (depth : Nat) (s : State) : State :=
  s.takeFrom src (fun f => decide (f = .beacon state depth)) fun s => (s.hear src (.beacon state)).finish

/-- The meaning of BEACON_TAKEN. -/
def execBeaconTaken (src : Nat) (state : NodeState) (depth : Nat) (s : State) : Host.Outcome State Fault Refusal :=
  .next (doBeaconTaken src state depth s)

/-- A reply, or a frame for another address, taken: it acts at the Peer Table only (R109, R142). -/
def doReplyFrameTaken (src : Nat) (s : State) : State :=
  s.takeFrom src (fun _ => false) fun s => (s.hear src .alive).offer

/-- The meaning of REPLY_FRAME_TAKEN. -/
def execReplyFrameTaken (src : Nat) (s : State) : Host.Outcome State Fault Refusal := .next (doReplyFrameTaken src s)

end Sys2Proof.Machine
end

