-- ==== Sys2Proof/Machine/Frames.lean ====
section
/-! DEFINITION. A frame as its bits are read from the bus: a malformed one that is taken (R149, R165 to R168), and one that
its slot rejects (R140, R141, R156). -/

namespace Sys2Proof.Machine

/-- A malformed frame is answered: it asks this node for a reply, and its source can be addressed (R149, R168). -/
def RawFrame.isAnswered (r : Sys2Proof.RawFrame) (self : Addr) : Bool :=
  RawFrame.asksReply r self && within 1 30 r.source.toNat

/-- A malformed frame taken: its source's silence timer restarts and no presence changes; one addressed to this node whose
kind is not a reply's is answered with NAK BAD_FRAME, echoing its first payload byte and its kind code, unless its source is
0 or 31; any other is ignored (R149, R168). An entry reserved for one that is not answered is released by the caller. -/
def State.malformed (r : Sys2Proof.RawFrame) (s : State) : State :=
  let s1 := s.hear r.source.toNat .alive
  if RawFrame.isAnswered r s.self then
    (s1.reserve true).fill (.nak r.source.toNat (RawFrame.echoNumber r) r.kind.toNat .badFrame)
  else s1

/-- What a taken frame sets going, when it is not this node's own: the command that its content is goes the way of that
command; a CONFIG or QUERY of an unknown type is refused; a malformed one is handled by R149. The commands that no frame read
from the bus can be change nothing. -/
def State.takeReading (r : Sys2Proof.RawFrame) (s : State) : State :=
  match RawFrame.read r s.self with
  | .malformed _ => s.takeHeld r.source.toNat (fun _ => false) fun s => (s.malformed r).released
  | .unknownRecord src num => doConfigUnknown src num s
  | .unknownSubject src num => doQueryUnknown src num s
  | .command i => match i with
    | .configGroup src num g ms => doConfigGroup src num g ms s
    | .configProfile src num slot k rs rc a => doConfigProfile src num slot k rs rc a s
    | .configProfileTablePart src num slot n st es => doConfigProfileTablePart src num slot n st es s
    | .configLimits src num a b => doConfigLimits src num a b s
    | .configTiming src num b l t => doConfigTiming src num b l t s
    | .configInputs src num a b c d e h => doConfigInputs src num a b c d e h s
    | .commit src num => doCommit src num s
    | .load src num f => doLoad src num f s
    | .flush src num => doFlush src num s
    | .stop src num k => doStop src num k s
    | .resume src num => doResume src num s
    | .setpos src num v => doSetpos src num v s
    | .scale src num p => doScale src num p s
    | .queryNode src num => doQueryNode src num s
    | .queryGroup src num g i => doQueryGroup src num g i s
    | .queryQueue src num i => doQueryQueue src num i s
    | .restart src num => doRestart src num s
    | .readyTaken src g t => doReadyTaken src g t s
    | .withdrawTaken src g t c => doWithdrawTaken src g t c s
    | .haltTaken src g k c t => doHaltTaken src g k c t s
    | .markTaken src t n o => doMarkTaken src t n o s
    | .groupScaleTaken src g p => doGroupScaleTaken src g p s
    | .beaconTaken src st d => doBeaconTaken src st d s
    | .replyFrameTaken src => doReplyFrameTaken src s
    | _ => s

/-- The frame in transmission is bit for bit the one read (R147). -/
def State.sendsRaw (r : Sys2Proof.RawFrame) (s : State) : Bool :=
  match s.fq.sending with
  | some e => decide (e.frame.raw s.self = r)
  | none => false

/-- This node's mark in the slot of a frame: CHECK-REJECT when its check fails; ADDRESSEE-BUSY when the frame asks this node
for a reply and finds no room; otherwise none (R140, R141). -/
def State.slotMark (r : Sys2Proof.RawFrame) (s : State) : SlotMarks :=
  if !RawFrame.checkPasses r then SlotMarks.reject
  else if RawFrame.asksReply r s.self && !s.hasRoom then SlotMarks.busy
  else SlotMarks.none

/-- A frame read from the bus whose slot showed no mark but perhaps this node's: a node that is OFFLINE judges nothing; one
that marks rejects it, so it is not taken; this node's own frame read back ends its attempt; any other is taken (R140 to
R142, R146, R149). -/
def State.receive (r : Sys2Proof.RawFrame) (s : State) : State :=
  if s.link.state = .offline then s.afterSlot SlotMarks.none
  else if s.sendsRaw r then s.ownTaken
  else
    let own := decide (r.source.toNat = s.self)
    let s1 := if own then s else s.attemptLost
    let mark := s1.slotMark r
    if mark = SlotMarks.none then s1.takeReading r
    else s1.slotRejects own mark

/-- The meaning of MALFORMED_FRAME_TAKEN (R149). -/
def execMalformedFrameTaken (frame : Sys2Proof.RawFrame) (s : State) : Host.Outcome State Fault Refusal :=
  .next (s.receive frame)

/-- A frame on the bus whose slot shows a mark is taken by no node: this node's own mark is set, an attempt of this node was
lost to the frame, or rejected if the frame bears this node's address, and a reply entry reserved for it is released at the
end of its slot, which frees it first for a waiting record (R18, R138 to R142, R156). -/
def State.rejectedInSlot (r : Sys2Proof.RawFrame) (s : State) : State :=
  if s.link.state = .offline then s.afterSlot SlotMarks.none
  else
    let own := decide (r.source.toNat = s.self)
    let s1 := if own then s else s.attemptLost
    s1.slotRejects own (s1.slotMark r)

/-- The meaning of FRAME_REJECTED_IN_SLOT (R140, R156). -/
def execFrameRejectedInSlot (frame : Sys2Proof.RawFrame) (s : State) : Host.Outcome State Fault Refusal :=
  .next (s.rejectedInSlot frame)

end Sys2Proof.Machine
end

