-- ==== Sys2Proof/Machine/Inputs.lean ====
section
/-! DEFINITION. The local inputs: registered assertions of LIMP and LIMN (R99), DALM and STOPIN (R97) and HOME (R79), a
registered inactive level, and a change of a line (R132). -/

namespace Sys2Proof.Machine

/-- An assertion of an input is registered: its active level becomes the filtered level, and the change is delivered when
the input was not asserted before (R132). While RESET is asserted nothing is registered (R121). -/
def State.assertion (i : InputName) (deliver : State → State) (s : State) : State :=
  if s.link.inReset then s
  else if s.asserted i then s.register i (s.activeLevel i)
  else deliver (s.register i (s.activeLevel i))

/-- The Move Controller at a limit, by the node state (R82, R99): a limit in the direction of D fails an announced head and
stops a move. -/
def State.limitDelivered (side : LimitSide) (s : State) : State :=
  match s.head with
  | some m =>
    if limitAhead side m.dist then
      if s.mc.state.announced then (s.failAnnounced .limitActive).finish
      else if s.mc.state.moving then (s.stopMove .limit false).finish
      else s
    else s
  | none => s

/-- The meaning of LIMIT_ASSERTED (R99). -/
def execLimitAsserted (side : LimitSide) (s : State) (inSlot : Bool := false) : Host.Outcome State Fault Refusal :=
  .next ((s.slotPassed inSlot).assertion (limitInput side) (State.limitDelivered side))

/-- DALM or STOPIN by the node state, with its cause (R97, R100). -/
def State.localStop (c : Cause) (s : State) : State :=
  match s.mc.state with
  | .unconfigured => s
  | .idle => s.hold c
  | .pending => s.hold c
  | .announcing => s.failAnnounced c
  | .armed => s.failAnnounced c
  | .running => s.stopMove c false
  | .stopping => s.stopMove c false
  | .held => s.addCause c

/-- DALM or STOPIN delivered: not acted on while UNCONFIGURED; otherwise DREN goes inactive at the registration and the node
acts by its state (R83, R97, R98). -/
def State.driveStop (c : Cause) (s : State) : State :=
  if s.mc.state = .unconfigured then s
  else ((s.updOut fun o => { o with dren := false }).localStop c).finish

/-- The meaning of DALM_ASSERTED (R97). -/
def execDalmAsserted (s : State) (inSlot : Bool := false) : Host.Outcome State Fault Refusal :=
  .next ((s.slotPassed inSlot).assertion .dalm (State.driveStop .driveAlarm))

/-- The meaning of STOPIN_ASSERTED (R97). -/
def execStopinAsserted (s : State) (inSlot : Bool := false) : Host.Outcome State Fault Refusal :=
  .next ((s.slotPassed inSlot).assertion .stopin (State.driveStop .stopInput))

/-- HOME delivered: it completes a SEEK in motion, and nothing else (R79). -/
def State.homeDelivered (s : State) : State :=
  match s.head with
  | some m => if m.kind = .seek ∧ s.mc.state.moving = true then s.completeSeek.finish else s
  | none => s

/-- The meaning of HOME_ASSERTED (R79). -/
def execHomeAsserted (s : State) (inSlot : Bool := false) : Host.Outcome State Fault Refusal :=
  .next ((s.slotPassed inSlot).assertion .home State.homeDelivered)

/-- The inactive level of an input is registered: no user acts on it (R79, R82, R97, R132). -/
def State.inactive (i : InputName) (s : State) : State :=
  if s.link.inReset then s else s.register i (s.activeLevel i).other

/-- The meaning of INPUT_CHANGE_INACTIVE (R132). -/
def execInputChangeInactive (input : InputName) (s : State) : Host.Outcome State Fault Refusal :=
  .next (s.inactive input)

/-- A line changes level: the input's filter time starts afresh, and nothing is registered (R132). -/
def State.lineChange (i : InputName) (l : Level) (s : State) : State :=
  if (s.inp.get i).line = l then s
  else s.updInp fun x => x.set i { x.get i with line := l, filtering := true }

/-- The meaning of LINE_LEVEL_CHANGE (R132). -/
def execLineLevelChange (input : InputName) (level : Level) (s : State) : Host.Outcome State Fault Refusal :=
  .next (s.lineChange input level)

end Sys2Proof.Machine
end

