-- ==== Sys2Proof/Machine/Motion.lean ====
section
/-! DEFINITION. The lead step (R68 to R70, R74, R75, R80). -/

namespace Sys2Proof.Machine

/-- A step of a move of distance `dist` over `L` lead steps makes a pulse: the accumulator and |D| reach L (R75). -/
def makesPulse (L acc : Nat) (dist : Int) : Bool := decide (L ≤ acc + dist.natAbs)

/-- The pulse accumulator after a step (R75). -/
def accAfter (L acc : Nat) (dist : Int) : Nat := if makesPulse L acc dist then acc + dist.natAbs - L else acc + dist.natAbs

/-- The position after a pulse of a move of distance `dist` (R75). -/
def pulseTo (dist position : Int) : Int := if 0 < dist then position + 1 else position - 1

/-- The lead after the occurrence of a step: p rises by 1, c takes its new value, the accumulator advances, and a pulse
changes the position and the pulse count (points 1 and 2 of R70, R75). -/
def Lead.stepped (l : Lead) (m : Move) (k : StepKind) : Lead :=
  let hit := makesPulse m.lead l.acc m.dist
  { l with p := l.p + 1, c := stepClimb l.c k, acc := accAfter m.lead l.acc m.dist,
           pulses := if hit then l.pulses + 1 else l.pulses,
           position := if hit then pulseTo m.dist l.position else l.position }

/-- The pulse that a step makes on the STEP line (R76). -/
def State.stepLine (m : Move) (s : State) : State :=
  if makesPulse m.lead s.lead.acc m.dist then s.updOut fun o => { o with stepPulses := o.stepPulses + 1 } else s

/-- The lead has reached L: a TRAVEL is complete, a SEEK has overrun (point 4 of R70, R80). -/
def State.leadEnds (m : Move) (s : State) : State :=
  match m.kind with
  | .travel => s.stopLead.retire .complete none
  | .seek => s.stopLead.retire .failed (some .seekOverrun)

/-- The next step of the running move is decided (point 6 of R70). -/
def State.decideNext (m : Move) (s : State) : State :=
  s.updLead fun l =>
    { l with step := some (decideStep (s.profileOf m) l.phase m.lead l.p l.c (l.cap.getD 0)) }

/-- What follows the pulse and the markers of a step: the end of the move, the end of a descent, or the next step (points 4
to 6 of R70, R74). -/
def State.afterStep (m : Move) (s : State) : State :=
  if s.lead.p = m.lead then s.leadEnds m
  else if s.lead.phase = .descent ∧ s.lead.c = 0 then s.stopLead.retire .halted s.mc.descentCause
  else s.decideNext m

/-- The pending step occurs (R70). Without one, no lead step occurs. -/
def State.leadStep (s : State) : State :=
  match s.lead.step, s.head with
  | some st, some m =>
    let s1 := (s.stepLine m).updLead fun l => l.stepped m st.kind
    let s2 := s1.reach fun k => decide (k.position = s1.lead.p)
    (s2.afterStep m).finish
  | _, _ => s

/-- The meaning of LEAD_STEP (R70). -/
def execLeadStep (s : State) (inSlot : Bool := false) : Host.Outcome State Fault Refusal :=
  .next (s.slotPassed inSlot).leadStep

end Sys2Proof.Machine
end

