-- ==== Sys2Proof/Machine/Power.lean ====
section
/-! DEFINITION. RESET and power-on (R120, R121). -/

namespace Sys2Proof.Machine

/-- RESET is asserted: the link is OFFLINE and sends nothing, the frame in transmission stops where it stands, no pulse is
made, DREN, MKO0 and MKO1 are inactive and DIR is forward; every block stands at its power-on state until RESET is released
(R121, R146). -/
def State.underReset (s : State) : State :=
  (State.powerOn s.link.addr s.link.rate s.inp s.pending).updLink fun l => { l with inReset := true }

/-- The meaning of RESET_ASSERTED (R121). -/
def execResetAsserted (s : State) : Host.Outcome State Fault Refusal := .next s.underReset

/-- The meaning of POWER_ON: RESET is released, the straps are read and every block takes its power-on state (R120, R121). -/
def execPowerOn (addr : BitVec 5) (rate : BitVec 2) (s : State) : Host.Outcome State Fault Refusal :=
  .next (State.powerOn addr rate s.inp s.pending)

end Sys2Proof.Machine
end

