-- ==== Sys2Proof/Machine/Timers.lean ====
section
/-! DEFINITION. The timers: roll timeout (R36), gate wait (R57), silence (R110), beacon (R118) and listen (R144). A timer
that is stopped does not expire, so its command changes nothing then. -/

namespace Sys2Proof.Machine

/-- The roll timeout expires: an announced head fails with ROLL_TIMEOUT, or the expiry is kept while its READY is in
transmission (R36, R41, R42). -/
def State.rollExpires (s : State) : State :=
  match s.roll.timer with
  | none => s
  | some _ =>
    let s1 := s.updRoll fun r => { r with timer := none }
    if s.mc.state.announced then (s1.failAnnounced .rollTimeout).finish else s1

/-- The meaning of ROLL_TIMEOUT (R36). -/
def execRollTimeout (s : State) (inSlot : Bool := false) : Host.Outcome State Fault Refusal :=
  .next (s.slotPassed inSlot).rollExpires

/-- The gate wait timer expires: the head is retired FAILED GATE_TIMEOUT, or the expiry is kept while a retirement record
waits (R19, R57). -/
def State.gateExpires (s : State) : State :=
  match s.gate.timer with
  | none => s
  | some _ =>
    let s1 := s.updGate fun g => { g with timer := none }
    if s.mc.record.isSome then s1.updMc fun m => { m with deferredExpiry := true }
    else (s1.retire .failed (some .gateTimeout)).finish

/-- The meaning of GATE_WAIT_TIMER_EXPIRES (R57). -/
def execGateWaitTimerExpires (s : State) (inSlot : Bool := false) : Host.Outcome State Fault Refusal :=
  .next (s.slotPassed inSlot).gateExpires

/-- The presence after the silence timer's expiry: PRESENT and UNREADY become ABSENT (R110). -/
def Presence.silent : Presence → Presence
  | .present => .absent
  | .unready => .absent
  | p => p

/-- The silence timer of a peer expires and stops (R110, R111). -/
def State.silenceExpires (peer : Addr) (s : State) : State :=
  match s.peerEntry peer with
  | none => s
  | some e =>
    match e.timer with
    | none => s
    | some _ =>
      ((s.updPeerEntry peer fun x => { x with timer := none }).setPresence peer e.presence.silent).finish

/-- The meaning of SILENCE_TIMER_EXPIRES (R110). -/
def execSilenceTimerExpires (peer : Nat) (s : State) (inSlot : Bool := false) : Host.Outcome State Fault Refusal :=
  .next ((s.slotPassed inSlot).silenceExpires peer)

/-- A BEACON is queued at an expiry when the Frame Queue holds no frame of this node and the link is ACTIVE (R118). -/
def State.queueBeacon (s : State) : State :=
  if s.fq.entries = [] ∧ s.link.state = .active then s.push (.beacon s.mc.state s.mc.queue.length) else s

/-- The beacon timer expires and restarts, and a BEACON may be queued (R118, R119). -/
def State.beaconExpires (s : State) : State :=
  match s.peer.beaconTimer with
  | none => s
  | some _ => s.restartBeacon.queueBeacon.offer

/-- The meaning of BEACON_TIMER_EXPIRES (R118). -/
def execBeaconTimerExpires (s : State) : Host.Outcome State Fault Refusal := .next s.beaconExpires

/-- The listen timer expires: the link becomes ACTIVE and the DEFERRED notices WAITING (R102, R144, R148). -/
def State.listenExpires (s : State) : State :=
  match s.link.listenTimer with
  | none => s
  | some _ => ((s.updLink fun l => { l with state := .active, listenTimer := none }).releaseDeferred).finish

/-- The meaning of LISTEN_TIMER_EXPIRES (R144). -/
def execListenTimerExpires (s : State) : Host.Outcome State Fault Refusal := .next s.listenExpires

end Sys2Proof.Machine
end

