-- ==== Sys2Proof/Machine/Dispatch.lean ====
section
/-! DEFINITION. One arm for each command, each one call of its meaning. -/

namespace Sys2Proof.Machine

/-- The effect of a command on everything but the queue of waiting commands. -/
def exec (i : Instr) (s : State) : Host.Outcome State Fault Refusal :=
  match i with
  | .configGroup src num group members => Sys2Proof.Machine.execConfigGroup src num group members s
  | .configProfile src num slot kind rs rc a => Sys2Proof.Machine.execConfigProfile src num slot kind rs rc a s
  | .configProfileTablePart src num slot count start entries => Sys2Proof.Machine.execConfigProfileTablePart src num slot count start entries s
  | .configLimits src num softMin softMax => Sys2Proof.Machine.execConfigLimits src num softMin softMax s
  | .configTiming src num beaconMs lossMs rollMs => Sys2Proof.Machine.execConfigTiming src num beaconMs lossMs rollMs s
  | .configInputs src num limp limn home dalm stopin homeValue => Sys2Proof.Machine.execConfigInputs src num limp limn home dalm stopin homeValue s
  | .commit src num => Sys2Proof.Machine.execCommit src num s
  | .load src num fields => Sys2Proof.Machine.execLoad src num fields s
  | .flush src num => Sys2Proof.Machine.execFlush src num s
  | .stop src num kind => Sys2Proof.Machine.execStop src num kind s
  | .resume src num => Sys2Proof.Machine.execResume src num s
  | .setpos src num value => Sys2Proof.Machine.execSetpos src num value s
  | .scale src num percent => Sys2Proof.Machine.execScale src num percent s
  | .queryNode src num => Sys2Proof.Machine.execQueryNode src num s
  | .queryGroup src num group index => Sys2Proof.Machine.execQueryGroup src num group index s
  | .queryQueue src num index => Sys2Proof.Machine.execQueryQueue src num index s
  | .restart src num => Sys2Proof.Machine.execRestart src num s
  | .readyTaken src group tag => Sys2Proof.Machine.execReadyTaken src group tag s
  | .withdrawTaken src group tag cause => Sys2Proof.Machine.execWithdrawTaken src group tag cause s
  | .haltTaken src group kind cause tag => Sys2Proof.Machine.execHaltTaken src group kind cause tag s
  | .markTaken src tag marker outcome => Sys2Proof.Machine.execMarkTaken src tag marker outcome s
  | .groupScaleTaken src group percent => Sys2Proof.Machine.execGroupScaleTaken src group percent s
  | .beaconTaken src state depth => Sys2Proof.Machine.execBeaconTaken src state depth s
  | .replyFrameTaken src => Sys2Proof.Machine.execReplyFrameTaken src s
  | .malformedFrameTaken frame => Sys2Proof.Machine.execMalformedFrameTaken frame s
  | .frameRejectedInSlot frame => Sys2Proof.Machine.execFrameRejectedInSlot frame s
  | .ownFrameTaken => Sys2Proof.Machine.execOwnFrameTaken s
  | .lostInArbitration => Sys2Proof.Machine.execLostInArbitration s
  | .rejected how => Sys2Proof.Machine.execRejected how s
  | .discarded how => Sys2Proof.Machine.execDiscarded s how
  | .refusedAsBusy => Sys2Proof.Machine.execRefusedAsBusy s
  | .dropped => Sys2Proof.Machine.execDropped s
  | .busIdle => Sys2Proof.Machine.execBusIdle s
  | .leadStep inSlot => Sys2Proof.Machine.execLeadStep s inSlot
  | .rollTimeout inSlot => Sys2Proof.Machine.execRollTimeout s inSlot
  | .gateWaitTimerExpires inSlot => Sys2Proof.Machine.execGateWaitTimerExpires s inSlot
  | .silenceTimerExpires peer inSlot => Sys2Proof.Machine.execSilenceTimerExpires peer s inSlot
  | .beaconTimerExpires => Sys2Proof.Machine.execBeaconTimerExpires s
  | .listenTimerExpires => Sys2Proof.Machine.execListenTimerExpires s
  | .limitAsserted side inSlot => Sys2Proof.Machine.execLimitAsserted side s inSlot
  | .dalmAsserted inSlot => Sys2Proof.Machine.execDalmAsserted s inSlot
  | .stopinAsserted inSlot => Sys2Proof.Machine.execStopinAsserted s inSlot
  | .homeAsserted inSlot => Sys2Proof.Machine.execHomeAsserted s inSlot
  | .inputChangeInactive input => Sys2Proof.Machine.execInputChangeInactive input s
  | .resetAsserted => Sys2Proof.Machine.execResetAsserted s
  | .powerOn addr rate => Sys2Proof.Machine.execPowerOn addr rate s
  | .lineLevelChange input level => Sys2Proof.Machine.execLineLevelChange input level s
  | .dominantBitOutsideFrame => Sys2Proof.Machine.execDominantBitOutsideFrame s

end Sys2Proof.Machine
end

