-- ==== Sys2Proof/Safety.lean ====
section
/-! DEFINITION. The terms in which statements about the node are made: what a node that can take a frame or a request looks
like, the state after a frame was heard and after a request was answered, a state with nothing left to do, and the
invariants. -/

namespace Sys2Proof.Machine

/-! ## Taking a frame -/

/-- A frame from `src` is taken here as another party's, with no attempt of this node on the bus: the link is not OFFLINE,
the source is not this node, no entry is in transmission, and none is reserved for a frame that asks this node for a reply
(R32, R142, R146, R156). -/
def State.hears (s : State) (src : Addr) : Prop :=
  s.link.state ≠ .offline ∧ src ≠ s.self ∧ s.fq.sending = none ∧ s.fq.reserved = false

/-- A frame from `src` is heard that changes no presence: its sender is PRESENT already, or has no entry (R109). -/
def State.hearsPresent (s : State) (src : Addr) : Prop :=
  s.hears src ∧ ∀ e ∈ s.peer.peers, e.addr = src → e.presence = .present

/-- The Frame Queue holds the frame `f`, queued or in transmission. -/
def State.holdsFrame (s : State) (f : OutFrame) : Prop := ∃ e ∈ s.fq.entries, e.frame = f

/-- A frame from `src` that asks this node for a reply finds room: as for any other, but that an entry is reserved for its
reply already, by an event within its slot, or 2 REPLY entries are free (R141, R156). -/
def State.takesRequest (s : State) (src : Addr) : Prop :=
  s.link.state ≠ .offline ∧ src ≠ s.self ∧ s.fq.sending = none ∧ (2 ≤ s.fq.free ∨ s.fq.reserved = true)

/-- The state after a frame from `src` was heard that shows only that its sender is alive: the idle count runs afresh, this
node marked nothing, and the source's silence timer runs toward the loss time (R109, R136). -/
def State.afterFrame (s : State) (src : Addr) : State :=
  { s with
    link := { s.link with idleCount := 0, inFrame := false, marks := { checkReject := false, addresseeBusy := false } }
    peer := { s.peer with peers := s.peer.peers.map fun e =>
      if e.addr = src then { e with timer := some s.timing.loss } else e } }

/-- The state after a request from `src` that changed nothing was answered by the frame `f`: its reply stands last in the
Frame Queue (R156, R157). -/
def State.answered (s : State) (src : Addr) (f : OutFrame) : State :=
  { s.afterFrame src with
    fq := { entries := s.fq.entries ++ [{ frame := f, status := .queued, busy := 0 }], reserved := false } }

/-- The state after a request was refused: the NAK carries the request's number, its kind's code and the reason (R157). -/
def State.refused (s : State) (src num : Nat) (k : RequestKind) (r : NakReason) : State :=
  s.answered src (.nak src num k.code r)

/-- The state after a request was acknowledged, but for what it changed (R157). -/
def State.acked (s : State) (src num : Nat) (k : RequestKind) (detail : Option Nat) : State :=
  s.answered src (.ack src num k.code detail)

/-! ## What a freed entry and a MARK bring -/

/-- The state after a REPLY entry was freed: a waiting record's REPORT takes it, and a retirement that was deferred for that
record is then made (R18, R19). -/
def State.entryFreed (s : State) : State :=
  match s.mc.record with
  | none => s
  | some w =>
    let sent : State :=
      { s with
        fq := { s.fq with entries := s.fq.entries ++ [{ frame := .report w.origin w.record, status := .queued, busy := 0 }] }
        mc := { s.mc with record := none } }
    if s.mc.deferredExpiry = true then sent.retire .failed (some .gateTimeout) else sent

/-- The state after an entry reserved for a frame was released at the end of its slot (R156), which gives it to a waiting
record as a freed one (R18, R19; a DESIGN CHOICE, notes/assumptions/33.md). -/
def State.slotOver (s : State) : State := State.entryFreed { s with fq := { s.fq with reserved := false } }

/-- The state with the MARK of this identity recorded: its record stands last, and the gate wait timer is stopped if the
head's gates are then decided (R52, R54, R56). -/
def State.withMark (s : State) (src : Addr) (t : Tag) (n : Nat) (o : MarkOutcome) : State :=
  let marks := s.gate.marks ++ [{ source := src, tag := t, marker := n, outcome := o }]
  { s with gate := { s.gate with
      marks, timer := if ∃ m ∈ s.mc.queue.head?, m.decided marks = true then none else s.gate.timer } }

/-! ## The loss of a peer -/

/-- The group table after member `p` left PRESENT: its entry in every roll is emptied, and each WHOLE group of it is BROKEN
(R112, R113). -/
def State.groupsWithout (s : State) (p : Addr) : List GroupEntry :=
  s.roll.groups.map fun x =>
    if p ∈ x.members then
      { x with roll := x.roll.map fun r => if r.addr = p then { r with tag := none } else r
               state := if x.state = .whole then .broken else x.state }
    else x

/-- The loss of member `p` makes the group of the head BROKEN (R112). -/
def State.headGroupBreaks (s : State) (p : Addr) : Prop :=
  ∃ g x, s.headGroup = some g ∧ s.groupEntry g = some x ∧ p ∈ x.members ∧ x.state = .whole

/-- The group `g` is told of a loss: a notice (RAMP, PEER_LOST, tag) stands in the list when it held none for `g`, and the
one it held keeps what it says otherwise, since a RAMP changes no notice (R93, R96, R114). -/
def State.toldOfLoss (s v : State) (g : GroupNo) (t : Tag) : Prop :=
  (s.noticeFor g = none → ∃ n ∈ v.mc.notices, n.group = g ∧ n.content = { kind := .ramp, cause := .peerLost, tag := t }) ∧
  ∀ e, s.noticeFor g = some e → ∃ n ∈ v.mc.notices, n.group = g ∧ n.content = e.content

/-- The SYNC share has room for a WITHDRAW once the queued READY has left it (R41, R150). -/
def State.withdrawFits (s : State) : Prop :=
  s.fq.count .sync < 6 ∨ ∃ e ∈ s.fq.entries, e.frame.isReady = true ∧ e.status = .queued

/-- What the break of the head's group comes to for a head in motion or announced whose READY is not in transmission, where
`u` is the state with the loss recorded and `v` the state after the event (R114, R116): a RUNNING move with the climb counter
above 0 begins a halt descent for PEER_LOST, and with it at 0 ends HALTED PEER_LOST, its group told; an announced head fails
PEER_LOST, its READY removed and its WITHDRAW queued. -/
structure State.LossActs (s u v : State) (m : Move) (rest : List Move) (g : GroupNo) : Prop where
  same    : v.peer = u.peer ∧ v.roll.groups = u.roll.groups ∧ v.store = s.store ∧ v.out = s.out ∧ v.inp = s.inp
  cause   : holdsCause v.mc.causes .peerLost = true
  told    : s.mc.state = .running → s.toldOfLoss v g m.tag
  descent : s.mc.state = .running → 0 < s.lead.c →
    v.mc.state = .stopping ∧ v.lead = { s.lead with phase := .descent } ∧ v.mc.descentCause = some .peerLost ∧
    v.mc.causes = withCause s.mc.causes .peerLost ∧ v.mc.queue = s.mc.queue ∧ v.gate = s.gate
  ended   : (s.mc.state = .running ∧ s.lead.c = 0) ∨ s.mc.state.announced = true →
    v.mc.state = .held ∧ v.mc.queue = rest ∧ v.lead.position = s.lead.position ∧ v.lead.step = none ∧
    v.lead.phase = .stopped ∧
    v.holdsFrame (.report m.origin
      { tag := m.tag, group := some g, outcome := if s.mc.state = .running then .halted else .failed
        cause := some .peerLost, progress := if s.mc.state = .running then s.lead.p else 0
        pulses := if s.mc.state = .running then s.lead.pulses else 0, position := s.lead.position })
  failed  : s.mc.state.announced = true →
    (s.fq.readySending = false → ∀ e ∈ v.fq.entries, e.frame.isReady = false) ∧
    (s.withdrawFits → v.holdsFrame (.withdraw g m.tag .peerLost))

/-! ## Nothing left to do -/

/-- Nothing waits to be done at the end of an event: no LINK cause is due (R155), a PENDING head is not ready for its checks
(R12), and no WAITING notice finds the URGENT share free (R94). -/
def State.settled (s : State) : Prop :=
  s.mc.linkDue = false ∧
  (s.mc.state = .pending → ∀ m ∈ s.mc.queue.head?, s.readyFor m = false) ∧
  (s.fq.count .urgent < share .urgent → ∀ n ∈ s.mc.notices, n.status ≠ .waiting)

/-! ## Invariants -/

/-- No share of the Frame Queue holds more than it may, and an entry stands reserved only in the slot of a frame in progress,
with room left for the reply (R150, R156). -/
def State.sharesOk (s : State) : Prop :=
  (∀ k : FrameClass, s.fq.count k ≤ share k) ∧
  (s.fq.reserved = true → s.fq.count .reply < share .reply ∧ s.link.inFrame = true ∧ s.link.state ≠ .offline)

/-- The move queue holds at most 16 entries, no two with the same tag, each with a lead of at least one step and a distance
no longer than its lead (R1, R2). -/
def State.queueOk (s : State) : Prop :=
  s.mc.queue.length ≤ 16 ∧ (s.mc.queue.map (·.tag)).Nodup ∧
  ∀ m ∈ s.mc.queue, 1 ≤ m.lead ∧ m.dist.natAbs ≤ m.lead

/-- A pending step can be made: it leaves c within 0..A and within the lead steps still to make (R68). -/
def stepFits (A left c : Nat) : StepKind → Prop
  | .climb => c < A ∧ c + 2 ≤ left
  | .hold => c + 1 ≤ left
  | .descent => True

/-- The lead of a running move stays within its bounds: p is below L and c within the ramp length and the lead steps still to
make, the pending step can be made, the accumulator is below L, and the pulses made are those of p steps (R68, R75). -/
def leadFits (x : Slot) (m : Move) (l : Lead) : Prop :=
  l.p < m.lead ∧ l.c ≤ x.rampLength ∧ l.c ≤ m.lead - l.p ∧
  (∃ st, l.step = some st ∧ stepFits x.rampLength (m.lead - l.p) l.c st.kind) ∧
  l.acc < m.lead ∧ l.pulses * m.lead + l.acc = l.p * m.dist.natAbs

/-- The Lead Generator follows the node state: the phase is RUN, DESCENT or STOPPED as the node is RUNNING, STOPPING or
neither; a move in hand has its lead within bounds and its markers with the Gate Unit, and no other state has a pending
step (R10, R46, R65, R68). -/
def State.leadOk (s : State) : Prop :=
  (s.lead.phase = .run ↔ s.mc.state = .running) ∧ (s.lead.phase = .descent ↔ s.mc.state = .stopping) ∧
  (s.mc.state.moving = false → s.lead.step = none) ∧
  (s.mc.state.moving = true → ∃ m rest ks, s.mc.queue = m :: rest ∧ leadFits (s.profileOf m) m s.lead ∧
    s.gate.held = some { tag := m.tag, unreached := ks })

/-- While a head is announced or moving, a REPLY entry is free and no retirement record waits (law R11), and the gate wait
timer is stopped (R15, R56). -/
def State.roomOk (s : State) : Prop :=
  s.mc.state.announced = true ∨ s.mc.state.moving = true →
    0 < s.fq.free ∧ s.mc.record = none ∧ s.gate.timer = none

/-- The queue and the hold causes follow the node state: UNCONFIGURED and IDLE have an empty queue and no cause, an entry is
head in PENDING, ANNOUNCING, ARMED, RUNNING and STOPPING, the set is empty in PENDING, ANNOUNCING and ARMED, a HELD node
has a cause; hold-pending never stands without one; and causes are kept only while the node is ANNOUNCING, each one of
R41's (R10, R22, R23, R41, R42). -/
def State.causesOk (s : State) : Prop :=
  (match s.mc.state with
    | .unconfigured => s.mc.queue = [] ∧ s.mc.causes = 0
    | .idle => s.mc.queue = [] ∧ s.mc.causes = 0
    | .pending => s.mc.queue ≠ [] ∧ s.mc.causes = 0
    | .announcing => s.mc.queue ≠ [] ∧ s.mc.causes = 0
    | .armed => s.mc.queue ≠ [] ∧ s.mc.causes = 0
    | .running => s.mc.queue ≠ []
    | .stopping => s.mc.queue ≠ []
    | .held => s.mc.causes ≠ 0) ∧
  (s.mc.holdPending = true → s.mc.causes ≠ 0) ∧ (s.mc.kept ≠ [] → s.mc.state = .announcing) ∧
  ∀ c ∈ s.mc.kept, c ∈ [Cause.rollTimeout, .driveAlarm, .stopInput, .limitActive, .peerLost]

/-- The committed flag is set exactly when the node is configured, and an UNCONFIGURED node has an empty group table, mark
list, Peer Table and notice list, with DREN inactive (R83, R93, R122, R123). -/
def State.configOk (s : State) : Prop :=
  (s.store.committed = true ↔ s.mc.state ≠ .unconfigured) ∧
  (s.mc.state = .unconfigured →
    s.roll.groups = [] ∧ s.gate.marks = [] ∧ s.peer.peers = [] ∧ s.mc.notices = [] ∧ s.out.dren = false)

/-- The tables are as their records made them: GROUP records and group table entries each have distinct numbers and this
node among distinct members; the Peer Table has one entry for each address, none for this node's own; and the group of every
queued move is in the group table (R6, R25, R108, R123, R124). -/
def State.tablesOk (s : State) : Prop :=
  (s.store.groups.map (·.number)).Nodup ∧
  (∀ r ∈ s.store.groups, s.self ∈ r.members ∧ ∀ a ∈ r.members, 1 ≤ a ∧ a ≤ 30) ∧
  (s.roll.groups.map (·.number)).Nodup ∧ (∀ e ∈ s.roll.groups, s.self ∈ e.members ∧ e.members.Nodup) ∧
  (s.peer.peers.map (·.addr)).Nodup ∧ (∀ e ∈ s.peer.peers, e.addr ≠ s.self) ∧
  ∀ m ∈ s.mc.queue, ∀ g, m.group = some g → ∃ e ∈ s.roll.groups, e.number = g

/-- A READY stands in the Frame Queue exactly while the node is ANNOUNCING: one, for the head; and an announced head is a
group move (R10, R32). -/
def State.readyOk (s : State) : Prop :=
  (s.mc.state = .announcing → (s.fq.entries.countP fun e => e.frame.isReady) = 1) ∧
  (∀ e ∈ s.fq.entries, e.frame.isReady = true → s.mc.state = .announcing ∧
    ∃ m ∈ s.mc.queue.head?, ∃ g ∈ m.group, e.frame = .ready g m.tag) ∧
  (s.mc.state.announced = true → ∃ m ∈ s.mc.queue.head?, m.group ≠ none)

/-- The link is sound: only an ACTIVE link sends, and one frame at a time, the listen timer runs exactly while the link is
LISTEN_ONLY, this node's own frame in transmission is a frame in progress, and the bus is not idle while a frame is in
progress (R136, R137, R144, R146). -/
def State.linkOk (s : State) : Prop :=
  (s.link.state ≠ .active → s.fq.sending = none) ∧ (s.link.listenTimer.isSome = true ↔ s.link.state = .listenOnly) ∧
  (s.fq.entries.countP fun e => decide (e.status = .inTransmission)) ≤ 1 ∧
  (s.fq.sending ≠ none → s.link.inFrame = true) ∧ (s.link.inFrame = true → s.link.idleCount < 12)

/-- The mark list holds at most 8 records, no two of one identity, each named by a gate of an entry that has not started,
and those gates name at most 8 distinct marks (R7, R51). -/
def State.marksOk (s : State) : Prop :=
  s.gate.marks.length ≤ 8 ∧ (s.gate.marks.map fun r => (r.source, r.tag, r.marker)).Nodup ∧
  (∀ r ∈ s.gate.marks, namedBy s.unstarted r = true) ∧
  (s.unstarted.flatMap (·.gates)).dedup.length ≤ 8

/-- The notice list holds at most one notice for each group, and every notice, and every upgrade held for one, says a cause
that a HALT notice can carry (R93, R107). -/
def State.noticesOk (s : State) : Prop :=
  (s.mc.notices.map (·.group)).Nodup ∧
  ∀ n ∈ s.mc.notices, causeInNotice n.content.cause = true ∧ ∀ u, n.upgrade = some u → causeInNotice u.cause = true

/-- All the invariants of the node together. -/
structure State.ok (s : State) : Prop where
  shares  : s.sharesOk
  queue   : s.queueOk
  lead    : s.leadOk
  room    : s.roomOk
  causes  : s.causesOk
  config  : s.configOk
  tables  : s.tablesOk
  ready   : s.readyOk
  link    : s.linkOk
  marks   : s.marksOk
  notices : s.noticesOk
  settled : s.settled

end Sys2Proof.Machine
end

