-- ==== Sys2Proof/Certificates/Slice0/Obligations.lean ====
section
/-! DEFINITION. The statements for the provers. The terms they are made in are those of Safety.lean. -/

open Sys2Proof Sys2Proof.Machine

/-! ## The step, power and the invariants at reset -/

/-- A step takes the command at the front of the queue and runs it on the state with the queue's rest; a block with no
command waiting idles (the model's choice, notes/assumptions/3.md). -/
def Obligations.StepRunsFrontCommand : Prop :=
  (∀ (c : Instr) (rest : List Instr) (s : State), step { s with pending := c :: rest } = exec c { s with pending := rest }) ∧
  ∀ s : State, s.pending = [] → step s = .next s

/-- Every command answers a next state, from every state, and none touches the queue of waiting commands. This is the
model's choice: no rule of the spec stops the node (notes/assumptions/23.md), a command whose occasion does not stand leaves
the state as it is (notes/assumptions/5.md), and the queue is the model's own (notes/assumptions/3.md). -/
def Obligations.EveryCommandAnswersAndKeepsTheQueue : Prop :=
  ∀ (c : Instr) (s : State), ∃ t, exec c s = .next t ∧ t.pending = s.pending

/-- POWER_ON leaves every block in its power-on state: the link OFFLINE with the straps as read, no frame, no record,
UNCONFIGURED with nothing queued, phase STOPPED at position 0, DIR forward, every other output inactive, and every input
UNSETTLED with its filter time started afresh, its line being what it was. RESET_ASSERTED leaves the same state, with the
straps kept and RESET standing asserted: that the blocks take their power-on state at the assertion already is the model's
choice (notes/assumptions/13.md), and so is the count of STEP pulses, which both clear (notes/assumptions/2.md). -/
def Obligations.PowerOnAndResetState : Prop :=
  ∀ (addr : BitVec 5) (rate : BitVec 2) (s : State),
    let line := fun x : Input => ({ line := x.line, filtered := .unsettled, filtering := true } : Input)
    let on : State :=
      { link := { state := .offline, rejects := 0, listenTimer := none, idleCount := 0, inFrame := false,
                  marks := { checkReject := false, addresseeBusy := false }, addr, rate, inReset := false }
        fq := { entries := [], reserved := false }
        store := { groups := [], slots := { s0 := .empty, s1 := .empty, s2 := .empty, s3 := .empty }, limits := none,
                   timing := none, inputs := none, committed := false }
        mc := { state := .unconfigured, queue := [], causes := 0, holdPending := false, record := none,
                deferredExpiry := false, notices := [], kept := [], descentCause := none, linkDue := false }
        roll := { groups := [], timer := none }
        gate := { marks := [], timer := none, held := none }
        peer := { peers := [], beaconTimer := none }
        lead := { phase := .stopped, p := 0, c := 0, cap := none, step := none, acc := 0, pulses := 0, position := 0,
                  soloScale := 100 }
        out := { stepPulses := 0, dir := .forward, dren := false, mko0 := false, mko1 := false }
        inp := { limp := line s.inp.limp, limn := line s.inp.limn, home := line s.inp.home, dalm := line s.inp.dalm,
                 stopin := line s.inp.stopin }
        pending := s.pending }
    exec (.powerOn addr rate) s = .next on ∧
    exec .resetAsserted s =
      .next { on with link := { on.link with addr := s.link.addr, rate := s.link.rate, inReset := true } }

/-- The state after reset meets every invariant. -/
def Obligations.ResetMeetsTheInvariants : Prop := State.reset.ok

/-! ## Profiles and the lead -/

/-- The rate of a LINEAR profile: Rs + (Rc − Rs) × c / A, the division rounded down, with the manual's three examples. -/
def Obligations.LinearRate : Prop :=
  (∀ rs rc a c : Nat, (Slot.ramp .linear rs rc a).rate c = rs + (rc - rs) * c / a) ∧
  (List.range 5).map (Slot.ramp .linear 100 500 4).rate = [100, 200, 300, 400, 500] ∧
  (∀ c : Nat, (Slot.ramp .linear 1000 5000 400).rate c = 1000 + 10 * c) ∧
  (Slot.ramp .linear 1000 5000 400).rate 150 = 2500 ∧ (Slot.ramp .linear 1000 5000 400).rate 399 = 4990 ∧
  (List.range 4).map (Slot.ramp .linear 16 20 3).rate = [16, 17, 18, 20]

/-- The rate of an SCURVE profile: Rs plus (Rc − Rs) × (3c²A − 2c³) / A³, the division rounded down, with the manual's
example; over c from 0 to A the difference 3c²A − 2c³ is that of the integers, so the rate is that of R63 computed exactly;
and with a cap of Rc an SCURVE profile decides the kinds of step that a LINEAR one decides. -/
def Obligations.ScurveRate : Prop :=
  (∀ rs rc a c : Nat, (Slot.ramp .scurve rs rc a).rate c = rs + (rc - rs) * (3 * c ^ 2 * a - 2 * c ^ 3) / a ^ 3) ∧
  (∀ a c : Nat, c ≤ a → ((3 * c ^ 2 * a - 2 * c ^ 3 : Nat) : Int) = 3 * (c : Int) ^ 2 * a - 2 * (c : Int) ^ 3) ∧
  (List.range 5).map (Slot.ramp .scurve 100 500 4).rate = [100, 162, 300, 437, 500] ∧
  ∀ rs rc a L p c : Nat, rs ≤ rc → 1 ≤ a → c ≤ a →
    runStep (.ramp .scurve rs rc a) L p c rc = runStep (.ramp .linear rs rc a) L p c rc

/-- The rate of a TABLE profile whose entries are all present: entry k covers the values of c from the sum of the counts
before it to below that sum plus its own count, and the last entry gives the rate at c = A and beyond; A is the sum of the
counts, and Rs and Rc are the first and the last rate. The manual's example stands beside it. -/
def Obligations.TableRate : Prop :=
  (∀ (before after : List TableEntry) (e : TableEntry) (c : Nat),
    let x := Slot.table ((before ++ e :: after).map some)
    let start := (before.map (·.count)).sum
    start ≤ c → (after = [] ∨ c < start + e.count) → x.rate c = e.rate) ∧
  (∀ es : List TableEntry, (Slot.table (es.map some)).rampLength = (es.map (·.count)).sum ∧
    (∀ e rest, es = e :: rest → (Slot.table (es.map some)).startRate = e.rate) ∧
    ∀ init e, es = init ++ [e] → (Slot.table (es.map some)).cruiseRate = e.rate) ∧
  (let x := Slot.table [some ⟨100, 2⟩, some ⟨250, 3⟩, some ⟨400, 1⟩, some ⟨600, 0⟩]
   x.rampLength = 6 ∧ (List.range 7).map x.rate = [100, 100, 250, 250, 250, 400, 600])

/-- For every profile that its record's checks admit, r(0) = Rs, r(A) = Rc, and r never falls as c rises from 0 to A. -/
def Obligations.RatesNeverFall : Prop :=
  (∀ (k : RampKind) (rs rc a : Nat), rs ≤ rc → 1 ≤ a →
    (Slot.ramp k rs rc a).rate 0 = rs ∧ (Slot.ramp k rs rc a).rate a = rc ∧
    ∀ c d, c ≤ d → d ≤ a → (Slot.ramp k rs rc a).rate c ≤ (Slot.ramp k rs rc a).rate d) ∧
  ∀ (init : List TableEntry) (last : TableEntry), init ≠ [] → (∀ e ∈ init, 1 ≤ e.count) → last.count = 0 →
    (init ++ [last]).Pairwise (fun e f => e.rate < f.rate) →
    let x := Slot.table ((init ++ [last]).map some)
    x.rate 0 = x.startRate ∧ x.rate x.rampLength = x.cruiseRate ∧ ∀ c d, c ≤ d → d ≤ x.rampLength → x.rate c ≤ x.rate d

/-- A lead step decided in phase RUN, with R lead steps to make: a climb when R ≥ c + 2, c < A and r(c + 1) ≤ cap; otherwise
a hold when R ≥ c + 1 and r(c) ≤ cap; otherwise a descent, which does not arise at c = 0 while r(0) ≤ cap. A step made in
phase RUN leaves c within A and within the lead steps then left. -/
def Obligations.StepRule : Prop :=
  ∀ (x : Slot) (L p c cap : Nat), p < L →
    (runStep x L p c cap = .climb ↔ L - p ≥ c + 2 ∧ c < x.rampLength ∧ x.rate (c + 1) ≤ cap) ∧
    (runStep x L p c cap = .hold ↔
      ¬(L - p ≥ c + 2 ∧ c < x.rampLength ∧ x.rate (c + 1) ≤ cap) ∧ L - p ≥ c + 1 ∧ x.rate c ≤ cap) ∧
    (x.rate 0 ≤ cap → runStep x L p 0 cap ≠ .descent) ∧
    (c ≤ x.rampLength → c ≤ L - p →
      stepClimb c (runStep x L p c cap) ≤ x.rampLength ∧ stepClimb c (runStep x L p c cap) ≤ L - (p + 1))

/-- The pulses are spread evenly over the lead: after n steps of a move, of whatever kinds, n × |D| / L pulses were made, the
accumulator holds n × |D| mod L, and the position has moved by the pulses in the sign of D; so the L steps of a whole lead
make exactly |D| pulses and move the position by exactly D. -/
def Obligations.PulsesSpreadEvenly : Prop :=
  ∀ (m : Move) (l : Lead) (ks : List StepKind), 1 ≤ m.lead → m.dist.natAbs ≤ m.lead → l.acc = 0 → l.pulses = 0 →
    let t := ks.foldl (fun x k => x.stepped m k) l
    t.pulses = ks.length * m.dist.natAbs / m.lead ∧ t.acc = ks.length * m.dist.natAbs % m.lead ∧
    t.position = l.position + (if m.dist < 0 then -(t.pulses : Int) else (t.pulses : Int)) ∧ t.p = l.p + ks.length ∧
    (ks.length = m.lead → t.pulses = m.dist.natAbs ∧ t.position = l.position + m.dist)

/-- The start of a move: MKO0 and MKO1 inactive, DIR by the sign of D and unchanged for a dwell, p, c, the accumulator and
the pulse count at 0, the cap of the applicable scale, the first step decided at p = 0 and c = 0, phase RUN; the position is
not changed; the move's markers are held unreached, the records no later entry names are dropped, and the gate wait timer
and the roll timeout stop; the node is RUNNING. Nothing else changes. -/
def Obligations.StartOfAMove : Prop :=
  ∀ (m : Move) (s : State),
    let cap := (s.profileOf m).cap (s.scaleOf m)
    let kind := runStep (s.profileOf m) m.lead 0 0 cap
    s.startMove m =
      { s with
        out := { s.out with mko0 := false, mko1 := false,
                            dir := if 0 < m.dist then .forward else if m.dist < 0 then .reverse else s.out.dir }
        lead := { s.lead with phase := .run, p := 0, c := 0, acc := 0, pulses := 0, cap := some cap,
                              step := some { kind, rate := (s.profileOf m).rate 0 } }
        gate := { marks := s.gate.marks.filter (namedBy s.mc.queue.tail), timer := none,
                  held := some { tag := m.tag, unreached := m.markers } }
        roll := { s.roll with timer := none }
        mc := { s.mc with state := .running, descentCause := none, kept := [] } }

/-- A lead step that ends neither the move nor its descent: p rises by 1, c takes its new value, the accumulator gains |D|
and makes a pulse when it reaches L, which moves STEP, the pulse count and the position; and the next step is decided: a
descent in phase DESCENT, by R68 in phase RUN. An unreached marker that stands at the new p becomes reached, marker 0 before
marker 1: MARK REACHED is queued and its line goes active; with the SYNC share full the LINK cause follows the step. Nothing
else changes, but that an entry queued on an idle bus is then offered. -/
def Obligations.LeadStepGoesOn : Prop :=
  ∀ (s : State) (m : Move) (rest : List Move) (st : PendingStep) (h : HeldMarkers), s.settled →
    s.mc.state.moving = true → s.mc.queue = m :: rest → s.lead.step = some st → s.lead.p + 1 < m.lead →
    s.gate.held = some h → ¬(s.lead.phase = .descent ∧ stepClimb s.lead.c st.kind = 0) →
    let hit := decide (m.lead ≤ s.lead.acc + m.dist.natAbs)
    let c := stepClimb s.lead.c st.kind
    let kind := if s.lead.phase = .descent then .descent
      else runStep (s.profileOf m) m.lead (s.lead.p + 1) c (s.lead.cap.getD 0)
    let gone : State :=
      { s with
        lead := { s.lead with
          p := s.lead.p + 1, c := c
          acc := if hit then s.lead.acc + m.dist.natAbs - m.lead else s.lead.acc + m.dist.natAbs
          pulses := if hit then s.lead.pulses + 1 else s.lead.pulses
          position := if hit then (if 0 < m.dist then s.lead.position + 1 else s.lead.position - 1) else s.lead.position
          step := some { kind, rate := stepRate (s.profileOf m) c kind } }
        out := { s.out with stepPulses := if hit then s.out.stepPulses + 1 else s.out.stepPulses } }
    let now := h.unreached.filter fun k => decide (k.position = s.lead.p + 1)
    let later := h.unreached.filter fun k => decide (k.position ≠ s.lead.p + 1)
    let order := now.filter (fun k => k.number = 0) ++ now.filter (fun k => k.number ≠ 0)
    let reached : State :=
      { gone with
        fq := { s.fq with entries := s.fq.entries ++ order.map fun k =>
          { frame := .mark h.tag k.number .reached, status := .queued, busy := 0 } }
        gate := { s.gate with held := some { h with unreached := later } }
        out := { gone.out with mko0 := s.out.mko0 || now.any fun k => decide (k.line = some .mko0)
                               mko1 := s.out.mko1 || now.any fun k => decide (k.line = some .mko1) } }
    (now = [] → exec .leadStep s = .next gone.offer ∧
      (s.link.idleCount < 12 ∨ (∀ e ∈ s.fq.entries, e.status ≠ .queued) → exec .leadStep s = .next gone)) ∧
    (s.fq.count .sync + now.length ≤ 6 → exec .leadStep s = .next reached.offer ∧
      (s.link.idleCount < 12 → exec .leadStep s = .next reached)) ∧
    (6 < s.fq.count .sync + now.length →
      exec .leadStep s = .next (gone.reach fun k => decide (k.position = s.lead.p + 1)).finish)

/-- A lead step that brings p to L ends the move: a TRAVEL is retired COMPLETE without a cause and a SEEK FAILED
SEEK_OVERRUN. A step that brings the climb counter of a halt descent to 0 short of L retires the move HALTED with the cause
of the halt that began the descent. In each case the REPORT, with the lead progress, the pulses and the position, stands in
the Frame Queue; a move that is alone in the queue leaves it empty, with the phase STOPPED; a cause leaves the node HELD
with it; and the configuration, the Peer Table, the inputs, the solo scale and DREN are unchanged. -/
def Obligations.LeadStepEndsTheMove : Prop :=
  ∀ (s : State) (m : Move) (rest : List Move) (st : PendingStep), s.ok → s.mc.state.moving = true →
    s.mc.queue = m :: rest → s.lead.step = some st → (s.mc.state = .stopping → s.mc.descentCause ≠ none) →
    (s.lead.p + 1 = m.lead ∨ (s.lead.phase = .descent ∧ stepClimb s.lead.c st.kind = 0)) →
    let l := s.lead.stepped m st.kind
    let outcome := if s.lead.p + 1 < m.lead then RetireOutcome.halted
      else if m.kind = .seek then .failed else .complete
    let cause := if s.lead.p + 1 < m.lead then s.mc.descentCause else if m.kind = .seek then some .seekOverrun else none
    ∃ t, exec .leadStep s = .next t ∧
      (∃ e ∈ t.fq.entries, e.frame = .report m.origin
        { tag := m.tag, group := m.group, outcome, cause, progress := s.lead.p + 1, pulses := l.pulses,
          position := l.position }) ∧
      t.mc.state ≠ .stopping ∧ (rest = [] → t.mc.queue = [] ∧ t.lead.position = l.position ∧ t.lead.phase = .stopped) ∧
      (∀ c, cause = some c → t.mc.state = .held ∧ holdsCause t.mc.causes c = true) ∧
      t.store = s.store ∧ t.peer = s.peer ∧ t.inp = s.inp ∧ t.lead.soloScale = s.lead.soloScale ∧ t.out.dren = s.out.dren

/-- The markers picked of the move in hand become reached, marker 0 before marker 1: MARK REACHED is queued for each while
the SYNC share has room, the output line each names goes active, and they are no longer unreached. Lines go active only by
this, and no line goes inactive. -/
def Obligations.MarkersReached : Prop :=
  ∀ (s : State) (h : HeldMarkers) (pick : Marker → Bool), s.gate.held = some h →
    let now := h.unreached.filter pick
    let order := now.filter (fun m => m.number = 0) ++ now.filter (fun m => m.number ≠ 0)
    (s.fq.count .sync + now.length ≤ 6 →
      (s.reach pick).fq.entries = s.fq.entries ++
        order.map fun m => { frame := .mark h.tag m.number .reached, status := .queued, busy := 0 }) ∧
    (6 < s.fq.count .sync + now.length → now ≠ [] → s.fq.count .sync ≤ 6 →
      (s.reach pick).mc.linkDue = true ∧ (s.reach pick).fq.count .sync = 6) ∧
    (s.reach pick).gate = { s.gate with held := some { h with unreached := h.unreached.filter fun m => !pick m } } ∧
    ((s.reach pick).out.mko0 = true ↔ s.out.mko0 = true ∨ ∃ m ∈ now, m.line = some .mko0) ∧
    ((s.reach pick).out.mko1 = true ↔ s.out.mko1 = true ∨ ∃ m ∈ now, m.line = some .mko1)

/-! ## The Frame Queue and the ends of an attempt -/

/-- The bus becomes idle. With the link ACTIVE and no entry in transmission, the oldest queued entry of the lowest class is
begun, which puts a frame in progress, and a BEACON then carries the node state and queue depth of this instant; with nothing
queued, and on a link that is LISTEN_ONLY or BLOCKED, the bus stands idle and no frame is begun. A node with an address that
was OFFLINE becomes ACTIVE, and its beacon timer starts at the interval in effect. While a frame is in progress, or RESET
asserted, the bus does not become idle for this node, and the command, whose occasion does not stand then, leaves the state
as it is (the model's choice, notes/assumptions/5.md). -/
def Obligations.BusIdleBeginsTheOldestOfTheLowestClass : Prop :=
  (∀ s : State, s.link.inFrame = true ∨ s.link.inReset = true → exec .busIdle s = .next s) ∧
  ∀ (s : State), s.link.inReset = false → s.link.inFrame = false → s.fq.sending = none →
    (s.link.state = .active → (∀ e ∈ s.fq.entries, e.status ≠ .queued) →
      exec .busIdle s = .next { s with link := { s.link with idleCount := 12 } }) ∧
    (s.link.state = .listenOnly ∨ s.link.state = .blocked →
      exec .busIdle s = .next { s with link := { s.link with idleCount := 12 } }) ∧
    (∀ (before after : List Entry) (e : Entry), s.link.state = .active → s.fq.entries = before ++ e :: after →
      e.status = .queued →
      (∀ x ∈ before, x.status = .queued → classCode e.frame.cls < classCode x.frame.cls) →
      (∀ x ∈ after, x.status = .queued → classCode e.frame.cls ≤ classCode x.frame.cls) →
      let frame := match e.frame with
        | .beacon _ _ => OutFrame.beacon s.mc.state s.mc.queue.length
        | f => f
      exec .busIdle s = .next
        { s with
          link := { s.link with idleCount := 0, inFrame := true
                                marks := { checkReject := false, addresseeBusy := false } }
          fq := { s.fq with entries := before ++ { e with frame, status := .inTransmission } :: after } }) ∧
    (s.link.state = .offline → 1 ≤ s.link.addr.toNat → s.link.addr.toNat ≤ 30 → s.fq.entries = [] →
      exec .busIdle s = .next
        { s with
          link := { s.link with state := .active, idleCount := 12 }
          peer := { s.peer with beaconTimer := some s.timing.beacon } }) ∧
    (s.link.state = .offline → (s.link.addr = 0 ∨ s.link.addr = 31) →
      exec .busIdle s = .next { s with link := { s.link with idleCount := 12 } })

/-- An attempt that is lost in arbitration, or rejected with fewer than three rejected attempts in a row before it, returns
the entry to queued in its place. Arbitration changes no count, and the winner's frame is then in progress; a rejected
attempt raises the consecutive-reject count by 1 and leaves the busy count, and its slot showed this node's CHECK-REJECT
exactly when its own check failed, as it may after a drop-out too. For a READY without a kept cause, and a HALT whose notice
holds no upgrade, nothing else changes; a READY returned with causes kept leaves the queue, and its head is retired FAILED
with the first of them and its WITHDRAW with that cause is queued, the rest joining the hold-cause set; a HALT returned with
an upgrade held for its notice takes it, a NOW over a RAMP changing what both say, and the notice keeps its place and its
status. An entry reserved for a frame that this node dropped out of is released at a rejection, and goes first to a waiting
record (that place in the order, and that a release brings on what a freed entry does, is the model's choice,
notes/assumptions/12.md and 33.md). -/
def Obligations.AttemptReturnsToQueued : Prop :=
  ∀ (s : State) (before after : List Entry) (e : Entry) (how : RejectedBy),
    s.fq.entries = before ++ e :: after → e.status = .inTransmission → (∀ x ∈ before ++ after, x.status = .queued) →
    let fq := { s.fq with entries := before ++ { e with status := .queued } :: after }
    (s.settled → (e.frame.isReady = true → s.mc.kept = []) →
      (∀ n ∈ s.mc.notices, e.frame.isHaltFor n.group = true → n.upgrade = none) →
      exec .lostInArbitration s = .next { s with fq, link := { s.link with idleCount := 0, inFrame := true } } ∧
      (s.link.rejects < 3 →
        let back : State :=
          { s with
            fq := fq
            link := { s.link with idleCount := 0, inFrame := false, rejects := s.link.rejects + 1,
                                  marks := { checkReject := decide (how = .ownCheck ∨ how = .dropOut true)
                                             addresseeBusy := false } } }
        (s.fq.reserved = false → exec (.rejected how) s = .next back) ∧
        (s.fq.reserved = true → s.fq.count .reply < 4 → exec (.rejected how) s = .next back.slotOver.finish))) ∧
    (∀ (g : GroupNo) (m : Move) (rest : List Move) (k : Cause) (ks : List Cause), s.ok → e.frame = .ready g m.tag →
      s.mc.queue = m :: rest → s.mc.kept = k :: ks → s.link.rejects < 3 →
      ∀ c ∈ [Instr.lostInArbitration, .rejected how], ∃ t, exec c s = .next t ∧
        t.mc.state = .held ∧ t.mc.queue = rest ∧ t.mc.kept = [] ∧ (∀ x ∈ k :: ks, holdsCause t.mc.causes x = true) ∧
        (∀ x ∈ t.fq.entries, x.frame.isReady = false) ∧ t.holdsFrame (.withdraw g m.tag k) ∧
        (∃ x ∈ t.fq.entries, x.frame = .report m.origin
          { tag := m.tag, group := m.group, outcome := .failed, cause := some k, progress := 0, pulses := 0,
            position := s.lead.position }) ∧
        t.store = s.store ∧ t.peer = s.peer ∧ t.lead = s.lead ∧ t.out = s.out ∧ t.inp = s.inp) ∧
    (∀ (g : GroupNo) (k : HaltKind) (c : Cause) (tag : Tag) (n : Notice) (u : NoticeContent), s.ok →
      e.frame = .halt g k c tag → s.noticeFor g = some n → n.upgrade = some u →
      let said := if u.kind = .now ∧ n.content.kind = .ramp then u else n.content
      let merged : State :=
        { s with
          fq := { s.fq with entries := before ++
            { e with status := .queued, frame := .halt g said.kind said.cause said.tag } :: after }
          mc := { s.mc with notices := s.mc.notices.map fun x =>
            if x.group = g then { x with content := said, upgrade := none } else x } }
      exec .lostInArbitration s = .next { merged with link := { s.link with idleCount := 0, inFrame := true } } ∧
      (s.link.rejects < 3 → s.fq.reserved = false →
        exec (.rejected how) s = .next
          { merged with
            link := { s.link with idleCount := 0, inFrame := false, rejects := s.link.rejects + 1,
                                  marks := { checkReject := decide (how = .ownCheck ∨ how = .dropOut true)
                                             addresseeBusy := false } } }))

/-- The fourth rejected attempt in a row discards the frame in hand: the link becomes LISTEN_ONLY, the count 0, the listen
timer runs for 20 ms, and the entry leaves the Frame Queue; the slot showed this node's CHECK-REJECT exactly when its own
check failed. For a BEACON or a REPLY frame no LINK cause is given; the REPLY entry freed goes first to a waiting record,
whose retirement if deferred is then made, and a PENDING head held back for reply room may then be ready; otherwise nothing
else follows. A discarded READY, WITHDRAW, MARK or HALT gives the LINK cause in every node state, which LinkCauseByState
gives and which a HELD node only adds, and after a HALT a DEFERRED notice (NOW, LINK, the tag) first takes the place of the
group's; a discarded READY of an announced head ends it FAILED with the first cause kept, or LINK without one, the others
and LINK joining the hold-cause set, and its WITHDRAW with that cause is queued. An entry reserved for a frame that this
node dropped out of is released first, and goes first to a waiting record (the order, and that a release brings on what a
freed entry does, is the model's choice, notes/assumptions/12.md and 33.md). -/
def Obligations.FourthRejectionDiscards : Prop :=
  ∀ (s : State) (before after : List Entry) (e : Entry) (how : RejectedBy), s.ok → s.link.rejects = 3 →
    s.fq.entries = before ++ e :: after → e.status = .inTransmission → (∀ x ∈ before ++ after, x.status = .queued) →
    let t : State :=
      { s with
        fq := { s.fq with entries := before ++ after }
        link := { s.link with state := .listenOnly, rejects := 0, listenTimer := some 20, idleCount := 0,
                              inFrame := false
                              marks := { checkReject := decide (how = .ownCheck ∨ how = .dropOut true)
                                         addresseeBusy := false } } }
    (s.fq.reserved = true → exec (.discarded how) s = exec (.discarded how) s.slotOver) ∧
    (e.frame.cls = .beacon → s.fq.reserved = false → exec (.discarded how) s = .next t) ∧
    (e.frame.cls = .reply → s.fq.reserved = false → exec (.discarded how) s = .next t.entryFreed.finish ∧
      (s.mc.record = none → s.mc.state ≠ .pending → exec (.discarded how) s = .next t)) ∧
    (e.frame.cls = .sync → s.fq.reserved = false → exec (.discarded how) s = .next t.takeLink.finish) ∧
    (e.frame.cls = .sync → s.fq.reserved = false → s.mc.state = .held →
      exec (.discarded how) s = .next { t with mc := { s.mc with causes := withCause s.mc.causes .link } }) ∧
    (∀ (g : GroupNo) (k : HaltKind) (c : Cause) (tag : Tag) (n : Notice), e.frame = .halt g k c tag →
      s.noticeFor g = some n → s.fq.reserved = false →
      let notices := s.mc.notices.filter (fun x => decide (x.group ≠ g)) ++
        [{ group := g, content := { kind := .now, cause := .link, tag := n.content.tag }, status := .deferred
           upgrade := none }]
      exec (.discarded how) s = .next ({ t with mc := { s.mc with notices } } : State).takeLink.finish ∧
      (s.mc.state = .held → exec (.discarded how) s = .next (State.fillUrgent
        { t with mc := { s.mc with causes := withCause s.mc.causes .link, notices } }))) ∧
    (∀ (g : GroupNo) (m : Move) (rest : List Move), e.frame = .ready g m.tag → s.mc.state = .announcing →
      s.mc.queue = m :: rest →
      let cause := s.mc.kept.headD .link
      ∃ v, exec (.discarded how) s = .next v ∧ v.mc.state = .held ∧ holdsCause v.mc.causes .link = true ∧ v.mc.queue = rest ∧
        (∀ x ∈ s.mc.kept, holdsCause v.mc.causes x = true) ∧ v.mc.kept = [] ∧
        v.link = t.link ∧ v.holdsFrame (.report m.origin
          { tag := m.tag, group := m.group, outcome := .failed, cause := some cause, progress := 0, pulses := 0
            position := s.lead.position }) ∧
        (∀ x, m.group = some x → v.holdsFrame (.withdraw x m.tag cause)) ∧
        (∀ x ∈ v.fq.entries, x.frame.isReady = true → x ∈ before ++ after) ∧
        v.store = s.store ∧ v.peer = s.peer ∧ v.lead = s.lead ∧ v.out = s.out ∧ v.inp = s.inp)

/-- A REPLY frame that ends busy raises its busy count by 1 and sets the consecutive-reject count to 0, and returns to
queued below 16 busy attempts; at the sixteenth it is dropped, with no LINK cause and the link state as it was. The entry
freed goes first to a waiting retirement record, whose REPORT is queued to its origin, and a PENDING head held back for
reply room may then be ready. A retirement that was deferred for that record is then made: the head of a HELD node is
retired FAILED GATE_TIMEOUT, and its own record goes to a free REPLY entry or waits in its turn. A frame of another class
that ends busy counts as rejected. (An entry that still stands reserved for an earlier frame is released first: that an end
of this node's own attempt ends a slot that still stands is the model's choice, notes/assumptions/12.md, and so is that the
release brings on what a freed entry does, 33.md.) -/
def Obligations.BusyAttemptsDropTheFrame : Prop :=
  ∀ (s : State) (before after : List Entry) (e : Entry), s.settled →
    s.fq.entries = before ++ e :: after → e.status = .inTransmission → (∀ x ∈ before ++ after, x.status = .queued) →
    let link := { s.link with rejects := 0, idleCount := 0, inFrame := false
                              marks := { checkReject := false, addresseeBusy := false } }
    (s.fq.reserved = true → s.fq.count .reply < 4 →
      ∀ c ∈ [Instr.refusedAsBusy, .dropped], exec c s = exec c s.slotOver) ∧
    (e.frame.cls = .reply → e.busy + 1 < 16 → s.fq.reserved = false → exec .refusedAsBusy s = .next
      { s with link := link
               fq := { s.fq with entries := before ++ { e with status := .queued, busy := e.busy + 1 } :: after } }) ∧
    (e.frame.cls = .reply → e.busy = 15 → s.mc.record = none → s.fq.reserved = false →
      let dropped : State := { s with link := link, fq := { s.fq with entries := before ++ after } }
      exec .dropped s = .next dropped.finish ∧ (s.mc.state ≠ .pending → exec .dropped s = .next dropped)) ∧
    (∀ w : WaitingRecord, e.frame.cls = .reply → e.busy = 15 → s.mc.record = some w → s.mc.deferredExpiry = false →
      s.fq.count .reply ≤ 4 → s.fq.reserved = false →
      let dropped : State :=
        { s with
          link := link
          fq := { s.fq with entries := before ++ after ++
            [{ frame := .report w.origin w.record, status := .queued, busy := 0 }] }
          mc := { s.mc with record := none } }
      exec .dropped s = .next dropped.finish ∧ (s.mc.state ≠ .pending → exec .dropped s = .next dropped)) ∧
    (∀ (w : WaitingRecord) (m : Move) (rest : List Move), e.frame.cls = .reply → e.busy = 15 → s.mc.record = some w →
      s.mc.deferredExpiry = true → s.mc.state = .held ∨ s.mc.state = .pending → s.mc.queue = m :: rest →
      s.fq.count .reply ≤ 4 → s.fq.reserved = false →
      let own : Record :=
        { tag := m.tag, group := m.group, outcome := .failed, cause := some .gateTimeout, progress := 0, pulses := 0
          position := s.lead.position }
      ∃ v, exec .dropped s = .next v ∧
        v = (({ s with
          link := link
          fq := { s.fq with entries := before ++ after ++
            [{ frame := .report w.origin w.record, status := .queued, busy := 0 }] }
          mc := { s.mc with record := none } } : State).retire .failed (some .gateTimeout)).finish ∧
        v.mc.state = .held ∧ holdsCause v.mc.causes .gateTimeout = true ∧ v.mc.queue = rest ∧
        v.mc.deferredExpiry = false ∧ v.holdsFrame (.report w.origin w.record) ∧
        (s.fq.count .reply < 4 → v.mc.record = none ∧ v.holdsFrame (.report m.origin own)) ∧
        (s.fq.count .reply = 4 → v.mc.record = some { origin := m.origin, record := own }) ∧
        v.link = link ∧ v.store = s.store ∧ v.peer = s.peer ∧ v.lead = s.lead ∧ v.out = s.out ∧ v.inp = s.inp) ∧
    (e.frame.cls ≠ .reply → exec .refusedAsBusy s = exec (.rejected .otherParty) s)

/-- This node's own frame is taken: the entry leaves the Frame Queue, the consecutive-reject count is 0, the beacon timer
restarts at the interval in effect (of a changed interval the model's choice, notes/assumptions/30.md), and the frame is
acted on. A BEACON does nothing more. The entry a reply frees goes first to a waiting record, and a PENDING head held back
for reply room may then be ready. A MARK is recorded as any other's is (that a head it readies is checked after the MARK's
entry has left is the model's choice, notes/assumptions/32.md). A WITHDRAW empties the roll entries naming its tag, in a
group of this node's own, and a HALT empties the roll and its notice leaves the list, a NOW upgrade of a RAMP joining it
anew, so that the next WAITING one is queued. The node's own READY for its announced head, with another member's roll entry
still empty and none naming another tag, makes it ARMED; with causes kept the head is then retired FAILED with the first of
them and WITHDRAW is queued, the others joining the hold-cause set. A READY that completes the roll empties it and starts
the head, a kept roll timeout being dropped; a kept limit, drive alarm or stop input, the first of the causes kept but for
roll timeouts, then stops the move at once, which ends HALTED with progress 0 and tells the group by a NOW notice (that a
roll timeout kept first leaves the decision to the next cause is the model's reading of R42 and R43,
notes/assumptions/16.md). A READY whose take shows a mismatch retires the head FAILED TAG_MISMATCH, with its WITHDRAW while
the SYNC share, in which the READY still counts, has room for it, and with LINK otherwise; and every kept cause joins the
hold-cause set. (An entry that still stands reserved for an earlier frame is released first: that an end of this node's own
attempt ends a slot that still stands is the model's choice, notes/assumptions/12.md, and so is that the release brings on
what a freed entry does, 33.md.) -/
def Obligations.OwnFrameTakenLeavesTheQueue : Prop :=
  ∀ (s : State) (before after : List Entry) (e : Entry), s.settled →
    s.fq.entries = before ++ e :: after → e.status = .inTransmission → (∀ x ∈ before ++ after, x.status = .queued) →
    (s.fq.reserved = true → s.fq.count .reply < 4 → exec .ownFrameTaken s = exec .ownFrameTaken s.slotOver) ∧
    (s.fq.reserved = false →
    let t : State :=
      { s with
        fq := { s.fq with entries := before ++ after }
        link := { s.link with idleCount := 0, inFrame := false, rejects := 0
                              marks := { checkReject := false, addresseeBusy := false } }
        peer := { s.peer with beaconTimer := some s.timing.beacon } }
    (e.frame.cls = .beacon → exec .ownFrameTaken s = .next t) ∧
    (e.frame.cls = .reply → s.fq.count .reply ≤ 4 →
      exec .ownFrameTaken s = .next t.entryFreed.finish ∧
      (s.mc.record = none → s.mc.state ≠ .pending → exec .ownFrameTaken s = .next t)) ∧
    (∀ (g x : Nat) (c : Cause), e.frame = .withdraw g x c → (∀ entry, s.groupEntry g = some entry → s.self ∉ entry.members) →
      exec .ownFrameTaken s = .next t) ∧
    (∀ (g x : Nat) (c : Cause) (entry : GroupEntry), e.frame = .withdraw g x c → s.groupEntry g = some entry →
      s.self ∈ entry.members → exec .ownFrameTaken s = .next
        { t with roll := { s.roll with groups := s.roll.groups.map fun y =>
          if y.number = g then
            { y with roll := y.roll.map fun r => if r.tag = some x then { r with tag := none } else r } else y } }) ∧
    (∀ (x n : Nat) (o : MarkOutcome), e.frame = .mark x n o →
      let known := ∃ r ∈ s.gate.marks, r.source = s.self ∧ r.tag = x ∧ r.marker = n
      let named := ∃ m ∈ s.markNamers, ∃ y ∈ m.gates, y.source = s.self ∧ y.tag = x ∧ y.marker = n
      (known ∨ ¬named → exec .ownFrameTaken s = .next t) ∧
      (¬known → named → exec .ownFrameTaken s = .next (t.withMark s.self x n o).finish ∧
        (s.mc.state ≠ .pending → exec .ownFrameTaken s = .next (t.withMark s.self x n o)))) ∧
    (∀ (g : GroupNo) (k : HaltKind) (c : Cause) (tag : Tag) (n : Notice), e.frame = .halt g k c tag →
      s.noticeFor g = some n →
      let anew := match n.upgrade with
        | some u => if n.content.kind = .ramp ∧ u.kind = .now then
            [({ group := n.group, content := u, status := .waiting, upgrade := none } : Notice)] else []
        | none => []
      exec .ownFrameTaken s = .next (State.fillUrgent
        { t with
          roll := { s.roll with groups := s.roll.groups.map fun y =>
            if y.number = g then { y with roll := y.roll.map fun r => { r with tag := none } } else y }
          mc := { s.mc with notices := s.mc.notices.filter (fun x => decide (x.group ≠ g)) ++ anew } })) ∧
    (∀ (g : GroupNo) (m : Move) (rest : List Move) (entry : GroupEntry), e.frame = .ready g m.tag →
      s.mc.state = .announcing → s.mc.queue = m :: rest → m.group = some g → s.mc.kept = [] →
      s.groupEntry g = some entry → s.self ∈ entry.members →
      (∀ r ∈ entry.roll, r.addr ≠ s.self → r.tag = none ∨ r.tag = some m.tag) →
      (∃ r ∈ entry.roll, r.addr ≠ s.self ∧ r.tag = none) →
      exec .ownFrameTaken s = .next
        { t with
          mc := { s.mc with state := .armed }
          roll := { s.roll with groups := s.roll.groups.map fun x =>
            if x.number = g then
              { x with roll := x.roll.map fun r => if r.addr = s.self then { r with tag := some m.tag } else r }
            else x } }) ∧
    (∀ (g : GroupNo) (m : Move) (rest : List Move) (entry : GroupEntry), s.ok → e.frame = .ready g m.tag →
      s.mc.state = .announcing → s.mc.queue = m :: rest → m.group = some g → s.groupEntry g = some entry →
      s.self ∈ entry.members →
      let groups := fun f : RollEntry → RollEntry => s.roll.groups.map fun x =>
        if x.number = g then { x with roll := x.roll.map f } else x
      let write := fun r : RollEntry => if r.addr = s.self then { r with tag := some m.tag } else r
      let empty := fun r : RollEntry => if r.addr = s.self ∨ r.tag = some m.tag then { r with tag := none } else r
      let complete := ∀ r ∈ entry.roll, r.addr ≠ s.self → r.tag = some m.tag
      let mismatch := ∃ r ∈ entry.roll, r.addr ≠ s.self ∧ ∃ x ∈ r.tag, x ≠ m.tag
      let failed := fun (v : State) (c : Cause) =>
        v.mc.state = .held ∧ v.mc.queue = rest ∧ holdsCause v.mc.causes c = true ∧
        (∀ x ∈ s.mc.kept, holdsCause v.mc.causes x = true) ∧ v.roll.groups = groups write ∧
        v.holdsFrame (.report m.origin
          { tag := m.tag, group := some g, outcome := .failed, cause := some c, progress := 0, pulses := 0
            position := s.lead.position }) ∧
        (∀ x ∈ v.fq.entries, x.frame.isReady = false) ∧ v.peer = t.peer ∧ v.store = s.store ∧ v.lead = s.lead ∧
        v.out = s.out ∧ v.inp = s.inp
      (complete → (∀ k ∈ s.mc.kept, k = .rollTimeout) → exec .ownFrameTaken s = .next (State.startMove m
        { t with
          fq := { t.fq with entries := t.fq.entries.filter fun x => !x.frame.isReady }
          roll := { s.roll with groups := groups empty } })) ∧
      (∀ (k : Cause) (later : List Cause), complete →
        (s.mc.kept.filter fun x => decide (x ≠ .rollTimeout)) = k :: later →
        k ∈ [Cause.limitActive, .driveAlarm, .stopInput] →
        let cause := if k = .limitActive then Cause.limit else k
        ∃ v, exec .ownFrameTaken s = .next v ∧ v.mc.state = .held ∧ v.mc.queue = rest ∧
          holdsCause v.mc.causes cause = true ∧
          (∀ x ∈ later, x ≠ .limitActive → holdsCause v.mc.causes x = true) ∧
          v.roll.groups = groups empty ∧
          v.holdsFrame (.report m.origin
            { tag := m.tag, group := some g, outcome := .halted, cause := some cause, progress := 0, pulses := 0
              position := s.lead.position }) ∧
          (∃ n ∈ v.mc.notices, n.group = g ∧ n.content.kind = .now ∧
            (s.noticeFor g = none → n.content = { kind := .now, cause := cause, tag := m.tag })) ∧
          (∀ x ∈ v.fq.entries, x.frame.isReady = false) ∧ v.lead.position = s.lead.position ∧ v.lead.step = none ∧
          v.peer = t.peer ∧ v.store = s.store ∧ v.inp = s.inp ∧ v.out.stepPulses = s.out.stepPulses) ∧
      (∀ (k : Cause) (later : List Cause), ¬complete → ¬mismatch → s.mc.kept = k :: later →
        ∃ v, exec .ownFrameTaken s = .next v ∧ failed v k ∧ v.holdsFrame (.withdraw g m.tag k)) ∧
      (mismatch → ∃ v, exec .ownFrameTaken s = .next v ∧ failed v .tagMismatch ∧
        (s.fq.count .sync < 6 → v.holdsFrame (.withdraw g m.tag .tagMismatch)) ∧
        (s.fq.count .sync = 6 → holdsCause v.mc.causes .link = true))))

/-- The retirement of the head, on a node with room for its REPORT and its SYNC frames: the REPORT goes to the origin with
the record of R17; a FAILED group move queues WITHDRAW unless its cause is PEER_WITHDREW; MARK VOID is queued for each
marker left unreached, marker 0 first; the entry leaves the queue, the records no unstarted entry names are dropped, the new
head's gate wait timer starts if its gates are undecided, and the roll timeout stops; the cause joins the hold-cause set,
and the node is HELD if the set is not empty or hold-pending is set, else PENDING or IDLE. -/
def Obligations.RetirementOfTheHead : Prop :=
  ∀ (s : State) (m : Move) (rest : List Move) (o : RetireOutcome) (c : Option Cause), s.mc.queue = m :: rest →
    0 < s.fq.free →
    let started := decide (s.mc.state = .running ∨ s.mc.state = .stopping)
    let record : Record :=
      { tag := m.tag, group := m.group, outcome := o, cause := c, progress := if started then s.lead.p else 0,
        pulses := if started then s.lead.pulses else 0, position := s.lead.position }
    let withdraw : List OutFrame := match o, m.group, c with
      | .failed, some g, some k => if k = .peerWithdrew then [] else [.withdraw g m.tag k]
      | _, _, _ => []
    let left := if started then (match s.gate.held with | some h => h.unreached | none => []) else m.markers
    let voids := (left.filter (fun k => k.number = 0) ++ left.filter (fun k => k.number ≠ 0)).map
      fun k => OutFrame.mark m.tag k.number .void
    let causes := match c with | some k => withCause s.mc.causes k | none => s.mc.causes
    let marks := s.gate.marks.filter (namedBy rest)
    s.fq.count .sync + withdraw.length + voids.length ≤ 6 →
    s.retire o c =
      { s with
        fq := { s.fq with entries := s.fq.entries ++
          (.report m.origin record :: (withdraw ++ voids)).map fun f => { frame := f, status := .queued, busy := 0 } }
        gate := { marks, held := none, timer := match rest with
          | [] => none
          | n :: _ => if n.decided marks then none else n.waitLimit }
        roll := { s.roll with timer := none }
        mc := { s.mc with
          queue := rest, causes := causes, deferredExpiry := false, kept := [], descentCause := none
          state := if causes = 0 ∧ s.mc.holdPending = false then (if rest = [] then .idle else .pending) else .held } }

/-- The arming checks on a PENDING head that is ready for them, in their order: PEER_WITHDREW, GATE_VOID, PEER_LOST,
LIMIT_ACTIVE, SOFT_LIMIT, RANGE, TAG_MISMATCH; the first that fails retires the head FAILED with its cause. When none fails,
a group head is announced by its READY, with the gate wait timer stopped and the roll timeout running if one is configured,
and a solo head starts. A READY that finds the SYNC share full is not queued: the node stays PENDING, and the LINK cause
then due sends it to HELD with the head kept. -/
def Obligations.ArmingChecks : Prop :=
  ∀ (s : State) (m : Move),
    let stop := s.lead.position + m.dist
    let entry := match m.group with | some g => s.groupEntry g | none => none
    let cause : Option Cause :=
      if m.group ≠ none ∧ m.withdrawnBy = true then some .peerWithdrew
      else if ∃ g ∈ m.gates, ∃ r ∈ s.gate.marks, g.names r = true ∧ r.outcome = .void then some .gateVoid
      else if ∃ e ∈ entry, e.state = .broken then some .peerLost
      else if (0 < m.dist ∧ s.asserted .limp = true) ∨ (m.dist < 0 ∧ s.asserted .limn = true) then some .limitActive
      else if m.kind = .travel ∧ ∃ r ∈ s.softLimits, stop < r.softMin ∨ r.softMax < stop then some .softLimit
      else if stop < -2147483648 ∨ 2147483647 < stop then some .range
      else if ∃ e ∈ entry, ∃ r ∈ e.roll, r.addr ≠ s.self ∧ ∃ t ∈ r.tag, t ≠ m.tag then some .tagMismatch
      else none
    let announced := fun g : GroupNo =>
        { s with
          fq := { s.fq with entries := s.fq.entries ++ [{ frame := .ready g m.tag, status := .queued, busy := 0 }] }
          gate := { s.gate with timer := none }
          roll := { s.roll with timer := if s.timing.roll = 0 then none else some s.timing.roll }
          mc := { s.mc with state := .announcing } }
    let lost := { s with mc := { s.mc with linkDue := true } }
    (s.armHead m = match cause, m.group with
      | some c, _ => s.retire .failed (some c)
      | none, some g => if s.fq.count .sync < 6 then announced g else lost
      | none, none => if m.kind = .seek ∧ s.asserted .home = true then (s.startMove m).completeSeek else s.startMove m) ∧
    (s.mc.state = .pending → lost.giveLink =
      { s with mc := { s.mc with state := .held, causes := withCause s.mc.causes .link, linkDue := false } })

/-- A LINK cause by the node state: not recorded while UNCONFIGURED; IDLE and PENDING become HELD with the head kept; HELD
adds LINK; an announced head without a kept cause fails LINK, its queued READY removed; a move in hand is stopped at once and
retired HALTED LINK, and its group is told by a HALT notice, DEFERRED while the link is not ACTIVE. -/
def Obligations.LinkCauseByState : Prop :=
  ∀ s : State,
    let cleared := fun t : State => { t with mc := { t.mc with linkDue := false } }
    let added := { s.mc with causes := withCause s.mc.causes .link, linkDue := false }
    (s.mc.state = .unconfigured → s.takeLink = cleared s) ∧
    ((s.mc.state = .idle ∨ s.mc.state = .pending) → s.takeLink = { s with mc := { added with state := .held } }) ∧
    (s.mc.state = .held → s.takeLink = { s with mc := added }) ∧
    (s.mc.state.announced = true → s.mc.kept = [] → s.takeLink = cleared (s.removeReady.retire .failed (some .link))) ∧
    ∀ (m : Move) (rest : List Move), s.mc.state.moving = true → s.mc.queue = m :: rest → s.lead.p ≠ m.lead →
      let ended := { s with lead := { s.lead with phase := .stopped, step := none, cap := none } }.retire .halted (some .link)
      s.takeLink = cleared (match m.group with
        | some g => ended.raiseNotice g { kind := .now, cause := .link, tag := m.tag } (decide (s.link.state ≠ .active))
        | none => ended)

/-- A HALT notice is raised: at the end of the list when the group has none; merged at once with the one the list holds, a
NOW over a RAMP changing its kind, cause and tag in place, the HALT queued for it in the URGENT share too, and a DEFERRED
one becoming WAITING by a notice that is not deferred; held as its upgrade while that one is in transmission. At the end of
that transmission, a NOW upgrade of a RAMP notice that was taken becomes a new WAITING notice, and after a return the
upgrade is merged. Nothing else changes. -/
def Obligations.NoticesMerge : Prop :=
  ∀ (s : State) (g : GroupNo) (n : NoticeContent) (deferred : Bool),
    let listing := fun (notices : List Notice) => { s with mc := { s.mc with notices } }
    let say := fun (c : NoticeContent) (x : Entry) =>
      if x.status = .queued ∧ x.frame.isHaltFor g = true then { x with frame := .halt g c.kind c.cause c.tag } else x
    let saying := fun (c : NoticeContent) => { s.fq with entries := s.fq.entries.map (say c) }
    (s.noticeFor g = none →
      s.raiseNotice g n deferred = listing (s.mc.notices ++
        [{ group := g, content := n, status := if deferred then .deferred else .waiting, upgrade := none }])) ∧
    (∀ (before after : List Notice) (e : Notice), s.mc.notices = before ++ e :: after → e.group = g →
      (∀ x ∈ before ++ after, x.group ≠ g) →
      let merged := if n.kind = .now ∧ e.content.kind = .ramp then n else e.content
      (s.fq.haltSending g = false →
        s.raiseNotice g n deferred =
          { listing (before ++
              { e with content := merged
                       status := if e.status = .deferred ∧ deferred = false then .waiting else e.status } :: after) with
            fq := saying merged }) ∧
      (s.fq.haltSending g = true → e.upgrade = none →
        s.raiseNotice g n deferred = listing (before ++ { e with upgrade := some n } :: after)) ∧
      (e.upgrade = some n →
        s.noticeTaken g = listing (before ++ after ++
          (if e.content.kind = .ramp ∧ n.kind = .now then
            [{ group := g, content := n, status := .waiting, upgrade := none }] else [])) ∧
        s.noticeReturned g =
          { listing (before ++ { e with content := merged, upgrade := none } :: after) with fq := saying merged }))

/-! ## Requests: configuration -/

/-- CONFIG GROUP: BAD_STATE once committed; BAD_FIELD for a number, a member count or an address out of range, a repeat, or a
set without this node; TABLE_FULL for a seventh number; else the record replaces the one of its number or joins them, and the
ACK carries no detail. Nothing else changes. -/
def Obligations.ConfigGroupStored : Prop :=
  ∀ (src num g : Nat) (ms : List Nat) (s : State), s.takesRequest src →
    let reason : Option NakReason :=
      if s.store.committed = true then some .badState
      else if ¬(1 ≤ g ∧ g ≤ 62 ∧ 2 ≤ ms.length ∧ ms.length ≤ 30 ∧ (∀ a ∈ ms, 1 ≤ a ∧ a ≤ 30) ∧ ms.Nodup) then some .badField
      else if s.self ∉ ms then some .badField
      else if (∀ r ∈ s.store.groups, r.number ≠ g) ∧ 6 ≤ s.store.groups.length then some .tableFull
      else none
    exec (.configGroup src num g ms) s = .next (match reason with
      | some r => s.refused src num .config r
      | none =>
        { s.acked src num .config none with
          store := { s.store with
            groups := if ∃ r ∈ s.store.groups, r.number = g then
                s.store.groups.map fun r => if r.number = g then { number := g, members := ms } else r
              else s.store.groups ++ [{ number := g, members := ms }] } })

/-- CONFIG PROFILE, one part of a TABLE: BAD_STATE once committed; BAD_FIELD for a part whose own fields are out of range;
the part is written over the slot's entries if it is a table of the same n and over none otherwise; BAD_FIELD if the rates
then present do not rise strictly in index order or the counts of the present entries, the last excluded, sum to more than
65,535 (the last is the present entry of the highest index, notes/assumptions/17.md); else the slot holds those entries,
DEFINED once every index holds one and PARTIAL before. Nothing else changes. -/
def Obligations.TablePartStored : Prop :=
  ∀ (src num slot n start : Nat) (es : List (Nat × Nat)) (s : State), s.takesRequest src →
    let c := Instr.configProfileTablePart src num slot n start es
    let fields := slot ≤ 3 ∧ 2 ≤ n ∧ n ≤ 32 ∧ 1 ≤ start ∧ start ≤ n ∧ 1 ≤ es.length ∧ es.length ≤ 5 ∧
      start + es.length ≤ n + 1 ∧
      ∀ k e, es[k]? = some e → 16 ≤ e.1 ∧ e.1 ≤ 200000 ∧ (start + k = n → e.2 = 0) ∧ (start + k ≠ n → 1 ≤ e.2 ∧ e.2 ≤ 4095)
    let old : List (Option TableEntry) := match s.store.slots.get slot with
      | .table old => if old.length = n then old else List.replicate n none
      | _ => List.replicate n none
    let new : List (Option TableEntry) := (List.range n).map fun k =>
      if start ≤ k + 1 ∧ k + 1 < start + es.length then (es[k + 1 - start]?).map fun e => { rate := e.1, count := e.2 }
      else old.getD k none
    let present := new.filterMap id
    let rises := (present.map (·.rate)).Pairwise (· < ·) ∧ (present.dropLast.map (·.count)).sum ≤ 65535
    (s.store.committed = true → exec c s = .next (s.refused src num .config .badState)) ∧
    (s.store.committed = false → ¬(fields ∧ rises) → exec c s = .next (s.refused src num .config .badField)) ∧
    (s.store.committed = false → fields → rises → ∃ slots : Slots,
      exec c s = .next { s.acked src num .config none with store := { s.store with slots } } ∧
      slots.get slot = .table new ∧ ((slots.get slot).isDefined = true ↔ ∀ e ∈ new, e ≠ none) ∧
      ((slots.get slot).isPartial = true ↔ none ∈ new) ∧ ∀ k, k ≠ slot → slots.get k = s.store.slots.get k)

/-- CONFIG PROFILE of kind LINEAR (0) or SCURVE (1), LIMITS, TIMING and INPUTS: BAD_STATE once committed; BAD_FIELD for any
other profile kind, for a slot, a rate or a ramp length out of range or Rs above Rc, when soft min is not below soft max,
when an interval is out of range, and when an active level is neither LOW (0) nor HIGH (1); else the slot holds the profile
whole, and any other record replaces the stored one. Nothing else changes. -/
def Obligations.OtherRecordsStored : Prop :=
  ∀ (src num : Nat) (s : State), s.takesRequest src →
    (∀ slot kind rs rc a : Nat,
      let good := slot ≤ 3 ∧ 16 ≤ rs ∧ rs ≤ 200000 ∧ 16 ≤ rc ∧ rc ≤ 200000 ∧ rs ≤ rc ∧ 1 ≤ a ∧ a ≤ 65535
      (s.store.committed = true →
        exec (.configProfile src num slot kind rs rc a) s = .next (s.refused src num .config .badState)) ∧
      (s.store.committed = false → ¬((kind = 0 ∨ kind = 1) ∧ good) →
        exec (.configProfile src num slot kind rs rc a) s = .next (s.refused src num .config .badField)) ∧
      (s.store.committed = false → (kind = 0 ∨ kind = 1) → good → ∃ slots : Slots,
        exec (.configProfile src num slot kind rs rc a) s = .next
          { s.acked src num .config none with store := { s.store with slots } } ∧
        slots.get slot = .ramp (if kind = 0 then .linear else .scurve) rs rc a ∧ (slots.get slot).isDefined = true ∧
        ∀ k, k ≠ slot → slots.get k = s.store.slots.get k)) ∧
    (∀ lo hi : Signed32, exec (.configLimits src num lo hi) s = .next (
      if s.store.committed = true then s.refused src num .config .badState
      else if ¬ lo.toInt < hi.toInt then s.refused src num .config .badField
      else { s.acked src num .config none with
             store := { s.store with limits := some { softMin := lo.toInt, softMax := hi.toInt } } })) ∧
    (∀ b l r : Nat, exec (.configTiming src num b l r) s = .next (
      if s.store.committed = true then s.refused src num .config .badState
      else if ¬(5 ≤ b ∧ b ≤ 500 ∧ 10 ≤ l ∧ l ≤ 2000 ∧ (r = 0 ∨ (10 ≤ r ∧ r ≤ 60000))) then
        s.refused src num .config .badField
      else { s.acked src num .config none with
             store := { s.store with timing := some { beacon := b, loss := l, roll := r } } })) ∧
    (∀ (a b c d e : Nat) (h : Signed32),
      let level := fun k : Nat => if k = 0 then Level.low else Level.high
      exec (.configInputs src num a b c d e h) s = .next (
      if s.store.committed = true then s.refused src num .config .badState
      else if ¬(a ≤ 1 ∧ b ≤ 1 ∧ c ≤ 1 ∧ d ≤ 1 ∧ e ≤ 1) then s.refused src num .config .badField
      else
        { s.acked src num .config none with
          store := { s.store with inputs := some { limp := level a, limn := level b, home := level c, dalm := level d,
                                                   stopin := level e, homeValue := h.toInt } } }))

/-- COMMIT: refused BAD_STATE outside UNCONFIGURED, NO_PROFILE without a DEFINED slot, BAD_TIMING when the loss time is below
twice the beacon interval, in that order; else PARTIAL slots become EMPTY, the committed flag is set, the group table and the
Peer Table are built, the solo scale is 100, DREN is active and the node IDLE; and a registered DALM or STOPIN that is
asserted by the levels now in effect makes DREN inactive and the node HELD with its cause, as a BLOCKED link does with
LINK. Nothing else changes. -/
def Obligations.CommitChecksAndBuilds : Prop :=
  ∀ (src num : Nat) (s : State), s.takesRequest src → s.mc.linkDue = false →
    let timing := s.store.timing.getD { beacon := 20, loss := 100, roll := 0 }
    let defined := fun k => (s.store.slots.get k).isDefined = true
    let fixed := fun x : Slot => if x.isPartial = true then Slot.empty else x
    let hot := fun i : InputName =>
      (s.inp.get i).filtered = .ofLevel (match s.store.inputs with | some r => r.level i | none => .low)
    let dalm : CauseSet := if hot .dalm then withCause 0 .driveAlarm else 0
    let stopin := if hot .stopin then withCause dalm .stopInput else dalm
    let causes := if s.link.state = .blocked then withCause stopin .link else stopin
    (s.mc.state ≠ .unconfigured → exec (.commit src num) s = .next (s.refused src num .commit .badState)) ∧
    (s.mc.state = .unconfigured → ¬(defined 0 ∨ defined 1 ∨ defined 2 ∨ defined 3) →
      exec (.commit src num) s = .next (s.refused src num .commit .noProfile)) ∧
    (s.mc.state = .unconfigured → (defined 0 ∨ defined 1 ∨ defined 2 ∨ defined 3) → timing.loss < 2 * timing.beacon →
      exec (.commit src num) s = .next (s.refused src num .commit .badTiming)) ∧
    (s.mc.state = .unconfigured → (defined 0 ∨ defined 1 ∨ defined 2 ∨ defined 3) → 2 * timing.beacon ≤ timing.loss →
      exec (.commit src num) s = .next
        { s.acked src num .commit none with
          store := { s.store with
            committed := true
            slots := { s0 := fixed s.store.slots.s0, s1 := fixed s.store.slots.s1, s2 := fixed s.store.slots.s2,
                       s3 := fixed s.store.slots.s3 } }
          roll := { s.roll with groups := s.store.groups.map fun r =>
            { number := r.number, state := .forming, scale := 100
              roll := ((List.range 31).filter fun a => decide (a ∈ r.members)).map fun a => { addr := a, tag := none } } }
          peer := { s.peer with peers :=
            ((List.range 31).filter fun a => decide (a ≠ s.self ∧ ∃ r ∈ s.store.groups, a ∈ r.members)).map fun a =>
              { addr := a, presence := .unseen, lastState := none, timer := none } }
          lead := { s.lead with soloScale := 100 }
          out := { s.out with dren := decide (¬ hot .dalm ∧ ¬ hot .stopin) }
          mc := { s.mc with state := if causes = 0 then .idle else .held, queue := [], causes := causes,
                            holdPending := false } })

/-- RESTART: BAD_STATE in ANNOUNCING, ARMED, RUNNING and STOPPING; else every block returns to its power-on state with the
input lines as they stand, but for the Link Controller, the position, the DIR level, the running beacon timer and the ACK,
which stands alone in the Frame Queue. (The count of STEP pulses is the model's own and goes on, notes/assumptions/2.md; that
the beacon timer runs on until the take of the ACK is the model's choice, notes/assumptions/29.md.) -/
def Obligations.RestartReturnsToPowerOn : Prop :=
  ∀ (src num : Nat) (s : State), s.takesRequest src →
    (s.mc.state ∈ [NodeState.announcing, .armed, .running, .stopping] →
      exec (.restart src num) s = .next (s.refused src num .restart .badState)) ∧
    (s.mc.state ∈ [NodeState.unconfigured, .idle, .pending, .held] → ∃ on : State,
      exec (.powerOn s.link.addr s.link.rate) s = .next on ∧
      exec (.restart src num) s = .next
        { on with
          link := (s.acked src num .restart none).link
          fq := { entries := [{ frame := .ack src num 0x10 none, status := .queued, busy := 0 }], reserved := false }
          lead := { on.lead with position := s.lead.position }
          out := { on.out with dir := s.out.dir, stepPulses := s.out.stepPulses }
          peer := { on.peer with beaconTimer := s.peer.beaconTimer } })

/-! ## Requests: moves -/

/-- The ranges of a LOAD's fields, judged as check 1: the tag 1..65,535, the group absent or 1..62, the kind TRAVEL or SEEK,
the slot 0..3, the lead length 1..16,777,215, the distance no longer than 16,777,215 either way and of length L for a SEEK;
at most 2 gates, distinct, each with a source 1..30, a tag of 1 or more and marker 0 or 1; a wait limit of 1 or more and
only with a gate; at most 2 markers with distinct numbers, each 0 or 1, at a position 1..L, its line none, MKO0 or MKO1. -/
def Obligations.LoadFieldRanges : Prop :=
  ∀ f : LoadFields, loadBadField f = false ↔
    f.tag ≠ 0 ∧ (∀ g, f.group = some g → 1 ≤ g ∧ g ≤ 62) ∧ (f.kind = 0 ∨ f.kind = 1) ∧ f.slot ≤ 3 ∧
    1 ≤ f.leadLength ∧ f.leadLength ≤ 16777215 ∧ f.distance.toInt.natAbs ≤ 16777215 ∧
    (f.kind = 1 → f.distance.toInt.natAbs = f.leadLength) ∧
    f.gates.length ≤ 2 ∧ f.gates.Nodup ∧
    (∀ g ∈ f.gates, 1 ≤ g.source ∧ g.source ≤ 30 ∧ 1 ≤ g.tag ∧ g.tag ≤ 65535 ∧ g.marker ≤ 1) ∧
    (∀ w, f.waitLimit = some w → f.gates ≠ [] ∧ 1 ≤ w) ∧
    f.markers.length ≤ 2 ∧ (f.markers.map (·.number)).Nodup ∧
    ∀ k ∈ f.markers, k.number ≤ 1 ∧ 1 ≤ k.position ∧ k.position ≤ f.leadLength ∧ k.line ≤ 2

/-- LOAD: NOT_CONFIGURED while UNCONFIGURED; then the ordered checks BAD_FIELD, UNDEFINED_PROFILE, SOLO_ONLY,
DISTANCE_EXCEEDS_LEAD, UNKNOWN_GROUP, DUPLICATE_TAG, QUEUE_FULL, GATES_FULL and SOFT_LIMIT, the first that fails refusing it
with no state changed; else the ACK carries the depth after the append and the entry joins at the tail, its origin the
source. Behind another entry, or on a HELD node, nothing more follows but the gate wait timer of a new head with undecided
gates; an IDLE node enters PENDING, and arms the move if it is ready. -/
def Obligations.LoadChecksAndAppends : Prop :=
  ∀ (src num : Nat) (f : LoadFields) (s : State), s.takesRequest src → s.settled →
    let m : Move :=
      { tag := f.tag, origin := src, group := f.group, kind := if f.kind = 1 then .seek else .travel, slot := f.slot
        lead := f.leadLength, dist := f.distance.toInt, waitLimit := f.waitLimit, withdrawnBy := false
        gates := f.gates.map fun g => { source := g.source, tag := g.tag, marker := g.marker }
        markers := f.markers.map fun k =>
          { number := k.number, position := k.position
            line := if k.line = 1 then some .mko0 else if k.line = 2 then some .mko1 else none } }
    let unstarted := if s.mc.state.moving = true then s.mc.queue.tail else s.mc.queue
    let reason : Option NakReason :=
      if s.mc.state = .unconfigured then some .notConfigured
      else if loadBadField f = true then some .badField
      else if (s.store.slots.get m.slot).isDefined = false then some .undefinedProfile
      else if m.kind = .seek ∧ m.group ≠ none then some .soloOnly
      else if m.lead < m.dist.natAbs then some .distanceExceedsLead
      else if ∃ g ∈ m.group, ∀ e ∈ s.roll.groups, e.number ≠ g then some .unknownGroup
      else if ∃ x ∈ s.mc.queue, x.tag = m.tag then some .duplicateTag
      else if 16 ≤ s.mc.queue.length then some .queueFull
      else if 8 < ((unstarted ++ [m]).flatMap (·.gates)).dedup.length then some .gatesFull
      else if m.kind = .travel ∧ ∃ x ∈ s.plannedEnd, ∃ r ∈ s.softLimits, x + m.dist < r.softMin ∨ r.softMax < x + m.dist
        then some .softLimit
      else none
    let acked := s.acked src num .load (some (s.mc.queue.length + 1))
    let appended : State :=
      { acked with
        gate := { s.gate with timer :=
          if s.mc.queue ≠ [] then s.gate.timer else if m.decided s.gate.marks = true then none else m.waitLimit }
        mc := { s.mc with queue := s.mc.queue ++ [m]
                          state := if s.mc.queue = [] ∧ s.mc.state = .idle then .pending else s.mc.state } }
    (∀ r, reason = some r → exec (.load src num f) s = .next (s.refused src num .load r)) ∧
    (reason = none → exec (.load src num f) s = .next appended.finish ∧
      (s.mc.queue ≠ [] ∨ s.mc.state = .held ∨ appended.readyFor m = false →
        exec (.load src num f) s = .next appended))

/-- FLUSH: NOT_CONFIGURED while UNCONFIGURED, accepted in IDLE, PENDING and HELD, BAD_STATE otherwise. Every entry is removed
without retirement, the mark list is emptied, the gate wait timer stops, a deferred retirement goes with its entry, a PENDING
node becomes IDLE, and the ACK carries the count removed. Nothing else changes. -/
def Obligations.FlushEmptiesTheQueue : Prop :=
  ∀ (src num : Nat) (s : State), s.takesRequest src →
    exec (.flush src num) s = .next (
      if s.mc.state = .unconfigured then s.refused src num .flush .notConfigured
      else if s.mc.state ∈ [NodeState.idle, .pending, .held] then
        { s.acked src num .flush (some s.mc.queue.length) with
          gate := { s.gate with marks := [], timer := none }
          mc := { s.mc with queue := [], deferredExpiry := false,
                            state := if s.mc.state = .held then .held else .idle } }
      else s.refused src num .flush .badState)

/-- STOP: NOT_CONFIGURED while UNCONFIGURED, BAD_FIELD for a kind other than RAMP (0) and NOW (1). In IDLE and PENDING the
node is HELD with STATION_STOP and keeps its head; in HELD nothing changes; in STOPPING a RAMP only adds the cause. An
announced head, and a move in hand stopped by NOW, or by RAMP with the climb counter at 0, ends HALTED STATION_STOP at once
with its REPORT queued and the node HELD; a RAMP with the climb counter above 0 begins a halt descent. A group is told by a
notice (kind, STATION_STOP, tag), of the kind NOW for an announced head, merged with the one the list holds for the group,
which only a NOW over a RAMP changes. An announced head's READY leaves the Frame Queue, and no WITHDRAW is queued. -/
def Obligations.StopActsByState : Prop :=
  ∀ (src num kind : Nat) (s : State), s.takesRequest src → s.ok →
    let acked := s.acked src num .stop none
    let added := { s.mc with causes := withCause s.mc.causes .stationStop }
    (s.mc.state = .unconfigured → exec (.stop src num kind) s = .next (s.refused src num .stop .notConfigured)) ∧
    (s.mc.state ≠ .unconfigured → 1 < kind → exec (.stop src num kind) s = .next (s.refused src num .stop .badField)) ∧
    ((s.mc.state = .idle ∨ s.mc.state = .pending) → kind ≤ 1 →
      exec (.stop src num kind) s = .next { acked with mc := { added with state := .held } }) ∧
    (s.mc.state = .held → kind ≤ 1 → exec (.stop src num kind) s = .next acked) ∧
    (s.mc.state = .stopping → kind = 0 → exec (.stop src num kind) s = .next { acked with mc := added }) ∧
    (∀ (m : Move) (rest : List Move), s.mc.queue = m :: rest → kind ≤ 1 →
      (s.mc.state.announced = true ∨ (s.mc.state.moving = true ∧ kind = 1) ∨
        (s.mc.state = .running ∧ kind = 0 ∧ s.lead.c = 0)) →
      ∃ t, exec (.stop src num kind) s = .next t ∧ t.mc.state = .held ∧ t.mc.queue = rest ∧
        holdsCause t.mc.causes .stationStop = true ∧ t.lead.position = s.lead.position ∧ t.lead.step = none ∧
        (∃ x ∈ t.fq.entries, x.frame = .report m.origin
          { tag := m.tag, group := m.group, outcome := .halted, cause := some .stationStop
            progress := if s.mc.state.moving = true then s.lead.p else 0
            pulses := if s.mc.state.moving = true then s.lead.pulses else 0, position := s.lead.position }) ∧
        (∀ g, m.group = some g →
          let k := if s.mc.state.announced = true ∨ kind = 1 then HaltKind.now else .ramp
          let said : NoticeContent := { kind := k, cause := .stationStop, tag := m.tag }
          ∃ n ∈ t.mc.notices, n.group = g ∧ (s.noticeFor g = none → n.content = said) ∧
            ∀ x, s.noticeFor g = some x →
              n.content = if k = .now ∧ x.content.kind = .ramp then said else x.content) ∧
        (s.mc.state.announced = true → ∀ x ∈ t.fq.entries, x.frame.isReady = false) ∧
        (∀ x ∈ t.fq.entries, ∀ g tag c, x.frame = .withdraw g tag c → x ∈ s.fq.entries) ∧
        t.store = s.store ∧ t.inp = s.inp ∧ t.out = s.out ∧ t.roll.groups = s.roll.groups) ∧
    (∀ (m : Move) (rest : List Move), s.mc.queue = m :: rest → s.mc.state = .running → kind = 0 → 0 < s.lead.c →
      let descending : State :=
        { acked with lead := { s.lead with phase := .descent }
                     mc := { added with state := .stopping, descentCause := some .stationStop } }
      exec (.stop src num kind) s = .next (match m.group with
        | some g => (descending.raiseNotice g { kind := .ramp, cause := .stationStop, tag := m.tag } false).finish
        | none => descending))

/-- RESUME: BAD_STATE outside HELD; CAUSE_PERSISTS while DALM or STOPIN is asserted, or with LINK held and the link not
ACTIVE; else the hold-cause set and hold-pending are cleared, DREN is active, and the node is PENDING, arming its head if it
is ready, or IDLE with an empty queue. Nothing else changes. -/
def Obligations.ResumeClearsTheHold : Prop :=
  ∀ (src num : Nat) (s : State), s.takesRequest src → s.settled →
    let persists := s.asserted .dalm = true ∨ s.asserted .stopin = true ∨
      (holdsCause s.mc.causes .link = true ∧ s.link.state ≠ .active)
    let resumed : State :=
      { s.acked src num .resume none with
        out := { s.out with dren := true }
        mc := { s.mc with causes := 0, holdPending := false, state := if s.mc.queue = [] then .idle else .pending } }
    (s.mc.state ≠ .held → exec (.resume src num) s = .next (s.refused src num .resume .badState)) ∧
    (s.mc.state = .held → persists → exec (.resume src num) s = .next (s.refused src num .resume .causePersists)) ∧
    (s.mc.state = .held → ¬persists → exec (.resume src num) s = .next resumed.finish ∧
      ((∀ m rest, s.mc.queue = m :: rest → resumed.readyFor m = false) → exec (.resume src num) s = .next resumed))

/-- SETPOS: accepted in IDLE, PENDING and HELD, BAD_STATE otherwise. The position counter is set, nothing else changes, and
the planned end position, which is the position plus the distances still to go and is absent while a SEEK is queued, moves by
the same amount. -/
def Obligations.SetposMovesThePlannedEnd : Prop :=
  ∀ (src num : Nat) (v : Signed32) (s : State), s.takesRequest src →
    (s.mc.state ∉ [NodeState.idle, .pending, .held] →
      exec (.setpos src num v) s = .next (s.refused src num .setpos .badState)) ∧
    (s.mc.state ∈ [NodeState.idle, .pending, .held] → ∃ t, exec (.setpos src num v) s = .next t ∧
      t = { s.acked src num .setpos none with lead := { s.lead with position := v.toInt } } ∧
      t.plannedEnd = s.plannedEnd.map (· + (v.toInt - s.lead.position)) ∧
      (s.plannedEnd = none ↔ ∃ m ∈ s.mc.queue, m.kind = .seek) ∧
      ∀ x ∈ s.plannedEnd, x = s.lead.position + (s.mc.queue.map (·.dist)).sum)

/-- The cap is S × Rc / 100, rounded down and raised to Rs, and lies from Rs to Rc, with the manual's table. SCALE addressed
to this node: NOT_CONFIGURED while UNCONFIGURED, BAD_FIELD for a percent outside 5..100; else the solo scale is stored, and
while a solo move runs up or along (phase RUN) the cap is computed again from it. The pending step and everything else are
unchanged. -/
def Obligations.CapAndSoloScale : Prop :=
  (∀ (k : RampKind) (rs rc a scale : Nat), rs ≤ rc → scale ≤ 100 →
    (Slot.ramp k rs rc a).cap scale = (if scale * rc / 100 < rs then rs else scale * rc / 100) ∧
    rs ≤ (Slot.ramp k rs rc a).cap scale ∧ (Slot.ramp k rs rc a).cap scale ≤ rc) ∧
  (Slot.ramp .linear 1000 5000 400).cap 100 = 5000 ∧ (Slot.ramp .linear 1000 5000 400).cap 50 = 2500 ∧
  (Slot.ramp .linear 1000 5000 400).cap 33 = 1650 ∧ (Slot.ramp .linear 1000 5000 400).cap 5 = 1000 ∧
  (Slot.ramp .linear 100 500 4).cap 80 = 400 ∧
  ∀ (src num percent : Nat) (s : State), s.takesRequest src →
    exec (.scale src num percent) s = .next (
      if s.mc.state = .unconfigured then s.refused src num .scale .notConfigured
      else if ¬(5 ≤ percent ∧ percent ≤ 100) then s.refused src num .scale .badField
      else
        { s.acked src num .scale none with
          lead := { s.lead with
            soloScale := percent
            cap := match s.mc.queue with
              | m :: _ => if m.group = none ∧ s.lead.phase = .run then
                  some ((s.store.slots.get m.slot).cap percent) else s.lead.cap
              | [] => s.lead.cap } })

/-- QUERY changes nothing and is answered by a STATUS in every state. NODE: the node state, the causes, hold-pending, the
position, the planned end (absent while a SEEK is queued, else the position, what the head has still to go, its distance
less the signed pulses already made for it once it has started, and the distances behind it), the depth, the head's tag, the
lead progress and current rate when RUNNING or STOPPING, the solo scale, the link state and the counts of peers. QUEUE:
BAD_FIELD for an index outside 1..16, else the depth and up to 3 entries from the index. GROUP: BAD_FIELD for a number
outside 1..62 or an index outside 1..30, then UNKNOWN_GROUP, else the group's state, scale, member count and up to 6 lines
from the index, this node's own being PRESENT with its node state. -/
def Obligations.QueriesAnswer : Prop :=
  ∀ (src num : Nat) (s : State), s.takesRequest src →
    let peers := fun p : Presence => s.peer.peers.countP fun e => decide (e.presence = p)
    let moving := s.mc.state = .running ∨ s.mc.state = .stopping
    exec (.queryNode src num) s = .next (s.answered src (.status src num (.node
      { state := s.mc.state, causes := s.mc.causes, holdPending := s.mc.holdPending, position := s.lead.position
        plannedEnd := s.plannedEnd, depth := s.mc.queue.length, headTag := s.mc.queue.head?.map (·.tag)
        motion := if moving then some (s.lead.p, match s.lead.step with | some x => x.rate | none => 0) else none
        soloScale := s.lead.soloScale, link := s.link.state, present := peers .present, absent := peers .absent
        unready := peers .unready }))) ∧
    (s.plannedEnd = none ↔ ∃ m ∈ s.mc.queue, m.kind = .seek) ∧
    (∀ x ∈ s.plannedEnd, (s.mc.queue = [] → x = s.lead.position) ∧
      ∀ (m : Move) (rest : List Move), s.mc.queue = m :: rest →
        let made : Int := if m.dist < 0 then -(s.lead.pulses : Int) else s.lead.pulses
        x = s.lead.position + (if moving then m.dist - made else m.dist) + (rest.map (·.dist)).sum) ∧
    (∀ i : Nat, exec (.queryQueue src num i) s = .next (
      if ¬(1 ≤ i ∧ i ≤ 16) then s.refused src num .query .badField
      else
        let line := fun (open? : Move → Nat) (m : Move) =>
          ({ tag := m.tag, group := m.group, kind := m.kind, dist := m.dist, openGates := open? m,
             withdrawn := m.withdrawnBy } : QueueLine)
        let gates := fun m : Move => m.gates.countP fun g => !s.gate.marks.any fun r =>
          g.names r && decide (r.outcome = .reached)
        let lines := match s.mc.queue with
          | [] => []
          | m :: rest => line (if moving then fun _ => 0 else gates) m :: rest.map (line gates)
        s.answered src (.status src num (.queue { depth := s.mc.queue.length, lines := (lines.drop (i - 1)).take 3 })))) ∧
    (∀ g i : Nat,
      (¬(1 ≤ g ∧ g ≤ 62 ∧ 1 ≤ i ∧ i ≤ 30) →
        exec (.queryGroup src num g i) s = .next (s.refused src num .query .badField)) ∧
      (1 ≤ g ∧ g ≤ 62 ∧ 1 ≤ i ∧ i ≤ 30 → s.groupEntry g = none →
        exec (.queryGroup src num g i) s = .next (s.refused src num .query .unknownGroup)) ∧
      (∀ e : GroupEntry, 1 ≤ g ∧ g ≤ 62 ∧ 1 ≤ i ∧ i ≤ 30 → s.groupEntry g = some e →
        let line := fun r : RollEntry =>
          if r.addr = s.self then
            ({ addr := r.addr, tag := r.tag, presence := .present, lastState := some s.mc.state } : MemberLine)
          else match s.peerEntry r.addr with
            | some p => { addr := r.addr, tag := r.tag, presence := p.presence, lastState := p.lastState }
            | none => { addr := r.addr, tag := r.tag, presence := .unseen, lastState := none }
        exec (.queryGroup src num g i) s = .next (s.answered src (.status src num (.group
          { group := e.number, state := e.state, scale := e.scale, members := e.roll.length
            lines := ((e.roll.drop (i - 1)).take 6).map line })))))

/-- A request that finds fewer than 2 REPLY entries free, and none reserved for it, meets this node's busy mark and is not
taken: nothing but the marks and the idle count changes, and no reply is queued. This holds for every request. An event of
the node's own within the slot of a frame that asks it for a reply, told so by the command's operand (the operand is the
model's choice, notes/assumptions/12.md), finds an entry reserved for that reply, if the slot found
2 free, and a frame in progress, its own if it dropped out of it; it acts as it does otherwise, and the frame then still
finds its room, whatever the event put into the share. -/
def Obligations.RequestsMeetTheBusyMark : Prop :=
  (∀ (src num : Nat) (s : State), s.hears src → s.fq.free < 2 →
    let busy : State :=
      { s with link := { s.link with idleCount := 0, inFrame := false
                                     marks := { checkReject := false, addresseeBusy := true } } }
    ∀ (g a b c d e : Nat) (ms : List Nat) (es : List (Nat × Nat)) (v w : Signed32) (f : LoadFields),
      ∀ i ∈ [Instr.configGroup src num g ms, .configProfile src num a b c d e, .configProfileTablePart src num a b c es,
             .configLimits src num v w, .configTiming src num a b c, .configInputs src num a b c d e v, .commit src num,
             .load src num f, .flush src num, .stop src num a, .resume src num, .setpos src num v, .scale src num a,
             .queryNode src num, .queryGroup src num g a, .queryQueue src num a, .restart src num],
        exec i s = .next busy) ∧
  ∀ (s : State) (peer src : Nat) (side : LimitSide),
    let framed : State := { s with link := { s.link with idleCount := 0, inFrame := true } }
    ∀ c ∈ [(Instr.leadStep true, Instr.leadStep false), (.rollTimeout true, .rollTimeout false),
           (.gateWaitTimerExpires true, .gateWaitTimerExpires false),
           (.silenceTimerExpires peer true, .silenceTimerExpires peer false),
           (.limitAsserted side true, .limitAsserted side false), (.dalmAsserted true, .dalmAsserted false),
           (.stopinAsserted true, .stopinAsserted false), (.homeAsserted true, .homeAsserted false)],
      (s.link.state = .offline ∨ (s.fq.free < 2 ∧ s.fq.reserved = false) → exec c.1 s = exec c.2 framed) ∧
      (s.link.state ≠ .offline → 2 ≤ s.fq.free ∨ s.fq.reserved = true → ∃ t, exec c.1 s = .next t ∧
        exec c.2 { framed with fq := { s.fq with reserved := true } } = .next t ∧
        t.fq.reserved = true ∧ t.link.state ≠ .offline ∧ (s.takesRequest src → t.takesRequest src))

/-! ## Coordination -/

/-- READY(g, t) of another node whose presence it leaves as it is. For a group this node does not hold, and from outside the
member set, it is ignored. Otherwise the sender's roll entry names t, and then, in this order: when every member's entry
names t, the entries naming t are emptied, and this node's announced head (g, t) starts with its own queued READY removed,
or, without one, a HALT(NOW, cause, t) notice is raised: with the cause of this node's queued WITHDRAW of (g, t), which
leaves the queue, if its cause is one that a HALT notice can carry (R107), and with LINK otherwise, a WITHDRAW of another
cause staying queued; when an announced head of g meets an entry naming another tag, it fails TAG_MISMATCH; and nothing else
changes otherwise. (With several such WITHDRAWs of (g, t) queued, that the oldest gives the cause and that all leave is the
model's reading of R35, notes/assumptions/15.md; that a WITHDRAW gives its cause whichever load of the tag it tells of, and
that one of another cause stays queued, is the model's choice, notes/assumptions/31.md.) -/
def Obligations.ReadyTaken : Prop :=
  ∀ (src g t : Nat) (s : State), s.hearsPresent src → s.ok →
    let c := Instr.readyTaken src g t
    let u := s.afterFrame src
    (s.groupEntry g = none → exec c s = .next u) ∧
    ∀ entry : GroupEntry, s.groupEntry g = some entry →
    let groups := fun f : RollEntry → RollEntry => { s.roll with groups := s.roll.groups.map fun x =>
      if x.number = g then { x with roll := x.roll.map f } else x }
    let write := fun r : RollEntry => if r.addr = src then { r with tag := some t } else r
    let empty := fun r : RollEntry => if r.addr = src ∨ r.tag = some t then { r with tag := none } else r
    let complete := ∀ r ∈ entry.roll, r.addr = src ∨ r.tag = some t
    let announcedFor := fun m : Move => s.mc.state.announced = true ∧ s.mc.queue.head? = some m ∧ m.group = some g
    let mismatch := fun m : Move => ∃ r ∈ entry.roll, r.addr ≠ s.self ∧ ∃ x ∈ (write r).tag, x ≠ m.tag
    let told := fun f : OutFrame => f.isWithdrawOf g t &&
      [Cause.softLimit, .range, .peerWithdrew, .gateVoid, .gateTimeout, .seekOverrun].all fun k =>
        decide (f ≠ .withdraw g t k)
    (src ∉ entry.members → exec c s = .next u) ∧
    (src ∈ entry.members → ¬complete → (∀ m, announcedFor m → ¬mismatch m) →
      exec c s = .next { u with roll := groups write }) ∧
    (∀ m, src ∈ entry.members → complete → announcedFor m → m.tag = t →
      exec c s = .next (State.startMove m
        { u with roll := groups empty
                 fq := { s.fq with entries := s.fq.entries.filter fun e => !e.frame.isReady } })) ∧
    (src ∈ entry.members → complete → (∀ m, announcedFor m → m.tag ≠ t) →
      (∀ e ∈ s.fq.entries, told e.frame = false) →
      exec c s = .next (({ u with roll := groups empty } : State).raiseNotice g
        { kind := .now, cause := .link, tag := t } false).finish) ∧
    (∀ (k : Cause) (before after : List Entry) (e : Entry), src ∈ entry.members → complete →
      (∀ m, announcedFor m → m.tag ≠ t) → s.fq.entries = before ++ e :: after → e.frame = .withdraw g t k →
      told e.frame = true → (∀ x ∈ before, told x.frame = false) →
      exec c s = .next (({ u with
        roll := groups empty
        fq := { s.fq with entries := s.fq.entries.filter fun e => !told e.frame } } : State).raiseNotice g
          { kind := .now, cause := k, tag := t } false).finish) ∧
    (∀ m, src ∈ entry.members → ¬complete → announcedFor m → mismatch m →
      ∃ v, exec c s = .next v ∧ v.mc.state = .held ∧ holdsCause v.mc.causes .tagMismatch = true ∧
        v.mc.queue = s.mc.queue.tail ∧ v.roll.groups = (groups write).groups ∧
        v.holdsFrame (.report m.origin
          { tag := m.tag, group := some g, outcome := .failed, cause := some .tagMismatch, progress := 0, pulses := 0
            position := s.lead.position }) ∧
        (∀ e ∈ v.fq.entries, e.frame.isReady = false) ∧
        (s.fq.count .sync < 6 → v.holdsFrame (.withdraw g m.tag .tagMismatch)) ∧
        v.store = s.store ∧ v.lead = s.lead ∧ v.out = s.out ∧ v.inp = s.inp)

/-- WITHDRAW(g, t) of another node whose presence it leaves as it is. For a group this node does not hold, and from outside
the member set, it is ignored. Otherwise every roll entry naming t is emptied; an announced head (g, t) fails PEER_WITHDREW,
its READY removed and no WITHDRAW queued; a started one is unaffected; any other entry (g, t) of the queue is flagged, which
decides the gates of a PENDING or HELD head. The cause it carries is not kept. -/
def Obligations.WithdrawTaken : Prop :=
  ∀ (src g t : Nat) (cause : Cause) (s : State), s.hearsPresent src → s.ok →
    let c := Instr.withdrawTaken src g t cause
    (s.groupEntry g = none → exec c s = .next (s.afterFrame src)) ∧
    ∀ entry : GroupEntry, s.groupEntry g = some entry →
    let u : State := { s.afterFrame src with roll := { s.roll with groups := s.roll.groups.map fun x =>
      if x.number = g then
        { x with roll := x.roll.map fun r => if r.tag = some t then { r with tag := none } else r } else x } }
    let isHead := ∃ m ∈ s.mc.queue.head?, m.group = some g ∧ m.tag = t
    let flagged : State :=
      { u with
        mc := { s.mc with queue := s.mc.queue.map fun m =>
          if m.group = some g ∧ m.tag = t then { m with withdrawnBy := true } else m }
        gate := { s.gate with timer := if isHead then none else s.gate.timer } }
    (src ∉ entry.members → exec c s = .next (s.afterFrame src)) ∧
    (src ∈ entry.members → isHead → s.mc.state.moving = true → exec c s = .next u) ∧
    (src ∈ entry.members → ¬(isHead ∧ (s.mc.state.moving = true ∨ s.mc.state.announced = true)) →
      exec c s = .next flagged.finish ∧ (s.mc.state ≠ .pending → exec c s = .next flagged)) ∧
    (∀ m, src ∈ entry.members → s.mc.queue.head? = some m → m.group = some g → m.tag = t → s.mc.state.announced = true →
      ∃ v, exec c s = .next v ∧ v.mc.state = .held ∧ holdsCause v.mc.causes .peerWithdrew = true ∧
        v.mc.queue = s.mc.queue.tail ∧ v.roll.groups = u.roll.groups ∧
        v.holdsFrame (.report m.origin
          { tag := t, group := some g, outcome := .failed, cause := some .peerWithdrew, progress := 0, pulses := 0
            position := s.lead.position }) ∧
        (∀ e ∈ v.fq.entries, e.frame.isReady = false ∧ (e.frame.isWithdrawOf g t = true → e ∈ s.fq.entries)) ∧
        v.store = s.store ∧ v.lead = s.lead ∧ v.out = s.out ∧ v.inp = s.inp)

/-- HALT of kind RAMP or NOW for group g, of another node whose presence it leaves as it is, taken by a member. The roll of
g is emptied; a NOW, and a RAMP over a RAMP, removes this node's own notice for g with its queued HALT, after which the next
WAITING notice is queued; and the cause is PEER_HALT from a member and STATION_STOP from any other sender: IDLE and PENDING
become HELD with the head kept, HELD adds the cause, a move of another group or of none is held pending, a STOPPING move of
g adds the cause at a RAMP, and a RUNNING one begins a halt descent at a RAMP with the climb counter above 0; a move of g
ends HALTED at once otherwise, an announced head of g HALTED and any other FAILED. An announced head's READY leaves the
Frame Queue, and a WITHDRAW with the cause is queued for a head of another group and none for one of g. No notice is raised,
and the cause and the tag carried enter no state. A node that is not a member ignores it. -/
def Obligations.HaltTaken : Prop :=
  ∀ (src g : Nat) (k : HaltKind) (carried : Cause) (tag : Option Nat) (s : State), s.hearsPresent src → s.ok →
    let c := Instr.haltTaken src g k carried tag
    (s.groupEntry g = none → exec c s = .next (s.afterFrame src)) ∧
    ∀ entry : GroupEntry, s.groupEntry g = some entry →
      let cause := if src ∈ entry.members then Cause.peerHalt else .stationStop
      let removes := ∃ n ∈ s.noticeFor g, k = .now ∨ n.content.kind = .ramp
      let u : State :=
        { s.afterFrame src with
          roll := { s.roll with groups := s.roll.groups.map fun x =>
            if x.number = g then { x with roll := x.roll.map fun r => { r with tag := none } } else x }
          mc := { s.mc with notices :=
            if removes then s.mc.notices.filter fun x => decide (x.group ≠ g) else s.mc.notices }
          fq := { s.fq with entries :=
            if removes then s.fq.entries.filter fun e => !e.frame.isHaltFor g else s.fq.entries } }
      let added := { u.mc with causes := withCause s.mc.causes cause }
      let becomes := fun v : State => exec c s = .next v.fillUrgent ∧ (¬removes → exec c s = .next v)
      (s.mc.state = .idle ∨ s.mc.state = .pending → becomes { u with mc := { added with state := .held } }) ∧
      (s.mc.state = .held → becomes { u with mc := added }) ∧
      ∀ (m : Move) (rest : List Move), s.mc.queue = m :: rest →
        (s.mc.state.moving = true → m.group ≠ some g → becomes { u with mc := { added with holdPending := true } }) ∧
        (s.mc.state = .stopping → m.group = some g → k = .ramp → becomes { u with mc := added }) ∧
        (s.mc.state = .running → m.group = some g → k = .ramp → 0 < s.lead.c →
          becomes { u with lead := { s.lead with phase := .descent }
                           mc := { added with state := .stopping, descentCause := some cause } }) ∧
        ((s.mc.state.announced = true ∨ (s.mc.state.moving = true ∧ m.group = some g ∧
            (k = .now ∨ (s.mc.state = .running ∧ s.lead.c = 0)))) →
          ∃ v, exec c s = .next v ∧ v.mc.state = .held ∧ holdsCause v.mc.causes cause = true ∧ v.mc.queue = rest ∧
            v.mc.notices.map (fun n => (n.group, n.content)) = u.mc.notices.map (fun n => (n.group, n.content)) ∧
            v.roll.groups = u.roll.groups ∧ v.lead.position = s.lead.position ∧ v.lead.step = none ∧
            v.holdsFrame (.report m.origin
              { tag := m.tag, group := m.group
                outcome := if m.group = some g then .halted else .failed, cause := some cause
                progress := if s.mc.state.moving = true then s.lead.p else 0
                pulses := if s.mc.state.moving = true then s.lead.pulses else 0, position := s.lead.position }) ∧
            (∀ e ∈ v.fq.entries, e.frame.isReady = false) ∧
            (m.group = some g → ∀ e ∈ v.fq.entries, ∀ h x k, e.frame = .withdraw h x k → e ∈ s.fq.entries) ∧
            (∀ h, m.group = some h → h ≠ g → s.withdrawFits → v.holdsFrame (.withdraw h m.tag cause)) ∧
            v.store = s.store ∧ v.out = s.out ∧ v.inp = s.inp)

/-- MARK(t, n, outcome) of another node whose presence it leaves as it is: ignored when a record has its source, tag and
number, or when no gate of an unstarted entry names it, the head not counting while its retirement for GATE_TIMEOUT is
deferred; otherwise a record joins the mark list at its end, the gate wait timer stops if the head's gates are then decided,
and a PENDING head that is then ready is checked. -/
def Obligations.MarkTaken : Prop :=
  ∀ (src t n : Nat) (o : MarkOutcome) (s : State), s.hearsPresent src → s.settled →
    let c := Instr.markTaken src t n o
    let u := s.afterFrame src
    let known := ∃ r ∈ s.gate.marks, r.source = src ∧ r.tag = t ∧ r.marker = n
    let unstarted := if s.mc.state.moving = true then s.mc.queue.tail else s.mc.queue
    let namers := if s.mc.deferredExpiry = true then unstarted.tail else unstarted
    let named := ∃ m ∈ namers, ∃ g ∈ m.gates, g.source = src ∧ g.tag = t ∧ g.marker = n
    let marks := s.gate.marks ++ [{ source := src, tag := t, marker := n, outcome := o }]
    let decided := fun m : Move => (∀ g ∈ m.gates, ∃ r ∈ marks, g.names r = true ∧ r.outcome = .reached) ∨
      (∃ g ∈ m.gates, ∃ r ∈ marks, g.names r = true ∧ r.outcome = .void) ∨ m.withdrawnBy = true
    let recorded : State :=
      { u with gate := { s.gate with
          marks := marks, timer := if ∃ m ∈ s.mc.queue.head?, decided m then none else s.gate.timer } }
    (known ∨ ¬named → exec c s = .next u) ∧
    (¬known → named → exec c s = .next recorded.finish ∧ (s.mc.state ≠ .pending → exec c s = .next recorded))

/-- SCALE for a group: ignored for a percent outside 5..100 and for a group this node does not hold; otherwise the group
scale is stored, and while a move of that group runs up or along (phase RUN) the cap is computed again from it. The pending
step and everything else are unchanged, and no reply is queued. -/
def Obligations.GroupScaleTaken : Prop :=
  ∀ (src g percent : Nat) (s : State), s.hears src →
    let c := Instr.groupScaleTaken src g percent
    (¬(5 ≤ percent ∧ percent ≤ 100) ∨ s.groupEntry g = none → exec c s = .next (s.afterFrame src)) ∧
    (5 ≤ percent → percent ≤ 100 → s.groupEntry g ≠ none → exec c s = .next
      { s.afterFrame src with
        roll := { s.roll with groups := s.roll.groups.map fun x => if x.number = g then { x with scale := percent } else x }
        lead := { s.lead with cap := match s.mc.queue with
          | m :: _ => if m.group = some g ∧ s.lead.phase = .run then some ((s.store.slots.get m.slot).cap percent)
              else s.lead.cap
          | [] => s.lead.cap } })

/-- A frame taken for another party, or a reply, restarts its sender's silence timer and changes nothing else. A BEACON is
kept as the sender's last announced state too, and brings it to UNREADY if that state is UNCONFIGURED and to PRESENT
otherwise; with the sender there already nothing more follows. A sender that becomes PRESENT makes a group WHOLE that was
not, when every member but this node is then PRESENT; its roll entries stay. A sender that becomes UNREADY from UNSEEN or
ABSENT changes no roll and no group; from PRESENT, its entry in every roll is emptied and each WHOLE group of it becomes
BROKEN, which acts on a RUNNING or announced head of such a group as the loss of a peer does, and on no other. A READY,
WITHDRAW, HALT or MARK of a sender that is UNSEEN, ABSENT or UNREADY brings it to PRESENT, with the WHOLE groups that this
makes, before the frame itself is acted on. -/
def Obligations.BeaconAndReplyFramesHeard : Prop :=
  ∀ (src d g t : Nat) (st : NodeState) (k : HaltKind) (c' : Cause) (tag : Option Nat) (o : MarkOutcome) (s : State),
    s.hears src →
    let c := Instr.beaconTaken src st d
    let brought : Presence := if st = .unconfigured then .unready else .present
    let peers := { s.peer with peers := s.peer.peers.map fun e =>
      if e.addr = src then { e with timer := some s.timing.loss, lastState := some st, presence := brought } else e }
    let heard : State := { s.afterFrame src with peer := peers }
    exec (.replyFrameTaken src) s = .next (s.afterFrame src) ∧
    (s.settled → (∀ e ∈ s.peer.peers, e.addr = src → e.presence = brought) → exec c s = .next heard) ∧
    (∀ e : PeerEntry, s.peerEntry src = some e → (s.peer.peers.map (·.addr)).Nodup →
      (s.roll.groups.map (·.number)).Nodup →
      (s.settled → st ≠ .unconfigured → e.presence ≠ .present →
        exec c s = .next
          { heard with
            roll := { s.roll with groups := s.roll.groups.map fun x =>
              if src ∈ x.members ∧ x.state ≠ .whole ∧ (∀ a ∈ x.members, a = s.self ∨ a = src ∨ s.isPresent a = true)
                then { x with state := .whole } else x } }) ∧
      (e.presence ≠ .present →
        let here : State :=
          { s with
            peer := { s.peer with peers := s.peer.peers.map fun x =>
              if x.addr = src then { x with presence := .present } else x }
            roll := { s.roll with groups := s.roll.groups.map fun x =>
              if src ∈ x.members ∧ x.state ≠ .whole ∧ (∀ a ∈ x.members, a = s.self ∨ a = src ∨ s.isPresent a = true)
                then { x with state := .whole } else x } }
        here.hearsPresent src ∧
        ∀ i ∈ [Instr.readyTaken src g t, .withdrawTaken src g t c', .haltTaken src g k c' tag, .markTaken src t d o],
          ∃ v, exec i s = .next v ∧ exec i here = .next v ∧ v.peer.peers = s.peer.peers.map fun x =>
            if x.addr = src then { x with presence := .present, timer := some s.timing.loss } else x) ∧
      (s.settled → st = .unconfigured → e.presence ≠ .present → exec c s = .next heard) ∧
      (s.ok → st = .unconfigured → e.presence = .present →
        let lost : State := { heard with roll := { s.roll with groups := s.groupsWithout src } }
        (¬s.headGroupBreaks src ∨ (s.mc.state ≠ .running ∧ s.mc.state.announced = false) → exec c s = .next lost) ∧
        ∀ (m : Move) (rest : List Move) (g : GroupNo), s.mc.queue = m :: rest → m.group = some g →
          s.headGroupBreaks src → s.mc.state = .running ∨ s.mc.state.announced = true →
          ∃ v, exec c s = .next v ∧ s.LossActs lost v m rest g))

/-- The silence timer of a peer expires and stops. A PRESENT peer becomes ABSENT, its entry in every roll is emptied, and
each WHOLE group of it becomes BROKEN; an UNREADY one becomes ABSENT, an ABSENT or UNSEEN one stays as it is, and no roll
and no group changes then. Where the head is of no group so broken, or is neither RUNNING nor announced, nothing more
follows. A RUNNING head of a group so broken begins a halt descent, or ends HALTED with the climb counter at 0, for
PEER_LOST, and in both cases the group is told by a notice (RAMP, PEER_LOST, tag); an announced head of one fails PEER_LOST,
and with its READY in transmission the cause is kept. The command of a stopped timer, whose occasion does not stand, leaves
the state as it is (the model's choice, notes/assumptions/5.md). -/
def Obligations.SilenceMakesAPeerAbsent : Prop :=
  ∀ (p : Addr) (s : State) (e : PeerEntry), s.ok → s.peerEntry p = some e →
    let c := Instr.silenceTimerExpires p
    let silent := fun q : Presence => { s.peer with peers := s.peer.peers.map fun x =>
      if x.addr = p then { x with timer := none, presence := q } else x }
    let lost : State := { s with peer := silent .absent, roll := { s.roll with groups := s.groupsWithout p } }
    (e.timer = none → exec c s = .next s) ∧
    (e.timer ≠ none → e.presence = .unready → exec c s = .next (State.offer { s with peer := silent .absent })) ∧
    (e.timer ≠ none → e.presence = .absent ∨ e.presence = .unseen →
      exec c s = .next (State.offer { s with peer := silent e.presence })) ∧
    (e.timer ≠ none → e.presence = .present →
      (¬s.headGroupBreaks p ∨ (s.mc.state ≠ .running ∧ s.mc.state.announced = false) →
        exec c s = .next (State.offer lost)) ∧
      (s.headGroupBreaks p → s.mc.state = .announcing → s.fq.readySending = true →
        exec c s = .next { lost with mc := { s.mc with kept := s.mc.kept ++ [.peerLost] } }) ∧
      ∀ (m : Move) (rest : List Move) (g : GroupNo), s.mc.queue = m :: rest → m.group = some g → s.headGroupBreaks p →
        s.mc.state = .running ∨ s.mc.state = .armed ∨ (s.mc.state = .announcing ∧ s.fq.readySending = false) →
        ∃ v, exec c s = .next v ∧ s.LossActs lost v m rest g)

/-! ## Frames as their bits are read -/

/-- A frame whose check passes and that is malformed is taken: the source's silence timer restarts, and one addressed to
this node whose kind is not a reply's is answered with NAK BAD_FRAME, echoing its first payload byte and its kind, unless
its source is 0 or 31, for which the entry reserved is released; any other is ignored. A well-formed CONFIG of a record type
outside 1 to 5 is refused BAD_FIELD, or BAD_STATE once committed, and a QUERY of a subject outside 0 to 2 BAD_FIELD. A frame
whose check fails is not taken: this node marks CHECK-REJECT. The cases are judged in their order: a source of 0 or 31, an
invalid destination, an unknown kind, a destination kind that does not fit the kind, a payload length that differs from the
layout's, and, in a frame of coordination, a value outside its range; a reply is judged by the first four only. (That a
well-formed frame given to this command acts as the command it is, and that one whose check fails may be given to it at all,
is the model's choice, notes/assumptions/18.md; that an entry stands reserved before the frame's own command,
notes/assumptions/12.md; that a release gives the entry to a waiting record and brings on the checks of a PENDING head,
notes/assumptions/33.md.) -/
def Obligations.MalformedFrameAnswered : Prop :=
  (∀ (r : RawFrame) (s : State),
    let c := Instr.malformedFrameTaken r
    let src := r.source.toNat
    (∀ n, RawFrame.checkPasses r = true → RawFrame.malformedCase r = some n →
      (s.hears src → RawFrame.asksReply r s.self = false → exec c s = .next (s.afterFrame src)) ∧
      (s.takesRequest src → RawFrame.asksReply r s.self = true →
        (1 ≤ src ∧ src ≤ 30 → exec c s = .next
          (s.answered src (.nak src ((r.payload.getD 0 0).toNat) r.kind.toNat .badFrame))) ∧
        (¬(1 ≤ src ∧ src ≤ 30) → s.ok →
          (s.fq.reserved = false → exec c s = .next (s.afterFrame src)) ∧
          (s.fq.reserved = true → exec c s = .next (s.afterFrame src).slotOver.finish ∧
            (s.mc.record = none → s.mc.state ≠ .pending →
              exec c s = .next { s.afterFrame src with fq := { s.fq with reserved := false } }))))) ∧
    (RawFrame.checkPasses r = true → RawFrame.malformedCase r = none → RawFrame.asksReply r s.self = true →
      s.takesRequest src →
      let num := (r.payload.getD 0 0).toNat
      let code := (r.payload.getD 1 0).toNat
      (r.kind = 0x08 → (code = 0 ∨ 5 < code) → exec c s = .next
        (s.refused src num .config (if s.store.committed = true then .badState else .badField))) ∧
      (r.kind = 0x0F → 2 < code → exec c s = .next (s.refused src num .query .badField))) ∧
    (∀ i, s.link.state ≠ .offline → src ≠ s.self → s.fq.sending = none → RawFrame.checkPasses r = true →
      RawFrame.read r s.self = .command i → exec c s = exec i s) ∧
    (s.hears src → RawFrame.checkPasses r = false → exec c s = .next
      { s with link := { s.link with idleCount := 0, inFrame := false
                                     marks := { checkReject := true, addresseeBusy := false } } })) ∧
  ∀ r : RawFrame,
    let src := r.source.toNat
    let dest := r.destKind.toNat
    let kind := r.kind.toNat
    let n := r.payload.length
    let b := fun i => (r.payload.getD i 0).toNat
    let party := 1 ≤ src ∧ src ≤ 30
    let addressed := (dest = 0 ∧ 1 ≤ r.destNum.toNat ∧ r.destNum.toNat ≤ 30) ∨
      (dest = 1 ∧ 1 ≤ r.destNum.toNat ∧ r.destNum.toNat ≤ 62) ∨ (dest = 2 ∧ r.destNum = 0)
    let request := 0x08 ≤ kind ∧ kind ≤ 0x10
    let reply := 0x18 ≤ kind ∧ kind ≤ 0x1B
    let known := (1 ≤ kind ∧ kind ≤ 6) ∨ request ∨ reply
    let fits := (kind ∈ [1, 2, 3] ∧ dest = 1) ∨ (kind ∈ [4, 6] ∧ dest = 2) ∨ (kind = 5 ∧ dest ≠ 2) ∨
      ((request ∨ reply) ∧ dest = 0)
    let length :=
      (kind ∈ [1, 6] ∧ n = 2) ∨ (kind = 2 ∧ n = 3) ∨ (kind = 3 ∧ (n = 2 ∨ n = 4)) ∨ (kind = 4 ∧ n = 4) ∨
      (kind = 5 ∧ n = if dest = 1 then 1 else 2) ∨ (kind ∈ [0x09, 0x0B, 0x0D, 0x10] ∧ n = 1) ∨ (kind = 0x0C ∧ n = 2) ∨
      (kind = 0x0E ∧ n = 5) ∨
      (kind = 0x0F ∧ ((b 1 = 0 ∧ n = 2) ∨ (b 1 = 1 ∧ n = 4) ∨ (b 1 = 2 ∧ n = 3) ∨ (2 < b 1 ∧ 2 ≤ n))) ∨
      (kind = 0x0A ∧ 14 ≤ n ∧ n = 14 + 2 * (b 13 / 16 % 2) + 4 * (b 13 % 4) + 4 * (b 13 / 4 % 4)) ∨
      (kind = 0x08 ∧ ((b 1 = 1 ∧ n = 7) ∨ (b 1 = 3 ∧ n = 10) ∨ (b 1 = 4 ∧ n = 8) ∨ (b 1 = 5 ∧ n = 11) ∨
        ((b 1 = 0 ∨ 5 < b 1) ∧ 2 ≤ n) ∨
        (b 1 = 2 ∧ ((b 3 ≤ 1 ∧ n = 12) ∨ (b 3 = 2 ∧ 7 ≤ n ∧ n = 7 + 5 * b 6) ∨ (2 < b 3 ∧ 4 ≤ n)))))
    let values :=
      (kind ∈ [1, 2, 4] → 256 * b 0 + b 1 ≠ 0) ∧ (kind = 2 → 1 ≤ b 2 ∧ b 2 ≤ 16) ∧
      (kind = 3 → b 0 ≤ 1 ∧ 1 ≤ b 1 ∧ b 1 ≤ 16 ∧ (n = 4 → 256 * b 2 + b 3 ≠ 0)) ∧ (kind = 4 → b 2 ≤ 1 ∧ b 3 ≤ 1) ∧
      (kind = 6 → b 0 ≤ 7 ∧ b 1 ≤ 16)
    (RawFrame.malformedCase r = some 1 ↔ ¬party) ∧
    (RawFrame.malformedCase r = some 2 ↔ party ∧ ¬addressed) ∧
    (RawFrame.malformedCase r = some 3 ↔ party ∧ addressed ∧ ¬known) ∧
    (RawFrame.malformedCase r = some 4 ↔ party ∧ addressed ∧ known ∧ ¬fits) ∧
    (RawFrame.malformedCase r = some 5 ↔ party ∧ addressed ∧ known ∧ fits ∧ ¬reply ∧ ¬length) ∧
    (RawFrame.malformedCase r = some 6 ↔ party ∧ addressed ∧ known ∧ fits ∧ ¬reply ∧ length ∧ ¬values) ∧
    (RawFrame.malformedCase r = none ↔ party ∧ addressed ∧ known ∧ fits ∧ (reply ∨ (length ∧ values)))

/-- A frame whose slot shows a mark is taken by no node: of the state only this node's marks and the idle count change, and
a REPLY entry reserved for it is released, which goes first to a waiting record, and may make a PENDING head held back for
reply room ready. This node marks CHECK-REJECT when its own check fails, and ADDRESSEE-BUSY when the frame asks it for a
reply that it has no room for; a node that is OFFLINE marks nothing. One with this node's address that it dropped out of
ends its attempt rejected. (That an entry stands reserved before the frame's own command is the model's choice,
notes/assumptions/12.md, and so is what its release brings on, which R12 and R18 do not name, 33.md.) -/
def Obligations.FrameRejectedInItsSlot : Prop :=
  ∀ (r : RawFrame) (s : State), s.settled →
    let full := s.fq.reserved = false ∧ s.fq.free < 2
    let rejected : State :=
      { s with
        link := { s.link with
          idleCount := 0
          inFrame := false
          marks := { checkReject := !RawFrame.checkPasses r
                     addresseeBusy := RawFrame.checkPasses r && RawFrame.asksReply r s.self && decide full } } }
    (s.link.state ≠ .offline → r.source.toNat ≠ s.self → s.fq.sending = none →
      (s.fq.reserved = false → exec (.frameRejectedInSlot r) s = .next rejected) ∧
      (s.fq.reserved = true → s.fq.count .reply < 4 →
        exec (.frameRejectedInSlot r) s = .next rejected.slotOver.finish ∧
        (s.mc.record = none → s.mc.state ≠ .pending →
          exec (.frameRejectedInSlot r) s = .next { rejected with fq := { s.fq with reserved := false } }))) ∧
    (s.link.state ≠ .offline → r.source.toNat = s.self → s.fq.sending ≠ none →
      RawFrame.checkPasses r = false ∨ RawFrame.asksReply r s.self = false ∨ ¬full →
      exec (.frameRejectedInSlot r) s = exec (.rejected (.dropOut (!RawFrame.checkPasses r))) s) ∧
    (s.link.state = .offline → exec (.frameRejectedInSlot r) s = .next
      { s with link := { s.link with idleCount := 0, inFrame := false
                                     marks := { checkReject := false, addresseeBusy := false } } })

/-- A frame that bears this node's address and that it is not sending is taken, a request with room for its reply too: the
link becomes BLOCKED, the listen timer stops, the consecutive-reject count is 0, the LINK cause follows, and no request is
acted on. On a HELD node nothing else follows. A request that this node dropped out of clashes alike: its entry is queued
again, and an entry reserved for the reply is released before the LINK cause. (That an entry stands reserved before the
request's own command is the model's choice, notes/assumptions/12.md; that a release brings on what a freed entry does,
notes/assumptions/33.md. That the clash restarts the beacon timer is the model's inference from R118,
notes/assumptions/8.md.) -/
def Obligations.AddressClashBlocksTheLink : Prop :=
  ∀ (num a b d e : Nat) (ms : List Nat) (es : List (Nat × Nat)) (v w : Signed32) (f : LoadFields) (k : Cause)
    (h : HaltKind) (o : MarkOutcome) (st : NodeState) (tag : Option Nat) (s : State),
    let requests :=
      [Instr.configGroup s.self num a ms, .configProfile s.self num a b d e a, .configProfileTablePart s.self num a b d es,
       .configLimits s.self num v w, .configTiming s.self num a b d, .configInputs s.self num a b d e a v,
       .commit s.self num, .load s.self num f, .flush s.self num, .stop s.self num a, .resume s.self num,
       .setpos s.self num v, .scale s.self num a, .queryNode s.self num, .queryGroup s.self num a b,
       .queryQueue s.self num a, .restart s.self num]
    let blocked : State :=
      { s with
        link := { s.link with state := .blocked, listenTimer := none, rejects := 0, idleCount := 0, inFrame := false
                              marks := { checkReject := false, addresseeBusy := false } }
        peer := { s.peer with beaconTimer := some s.timing.beacon } }
    (s.link.state ≠ .offline → s.fq.sending = none → 2 ≤ s.fq.free → s.fq.reserved = false →
      ∀ i ∈ requests ++ [.readyTaken s.self a b, .withdrawTaken s.self a b k, .haltTaken s.self a h k tag,
                         .markTaken s.self a b o, .groupScaleTaken s.self a b, .beaconTaken s.self st d,
                         .replyFrameTaken s.self],
        exec i s = .next blocked.takeLink.finish ∧
        (s.settled → s.mc.state = .held →
          exec i s = .next { blocked with mc := { s.mc with causes := withCause s.mc.causes .link } })) ∧
    ∀ (before after : List Entry) (x : Entry), s.ok → s.fq.entries = before ++ x :: after → x.status = .inTransmission →
      (∀ n ∈ s.mc.notices, x.frame.isHaltFor n.group = true → n.upgrade = none) → 2 ≤ s.fq.free ∨ s.fq.reserved = true →
      let left : State :=
        { blocked with fq := { s.fq with entries := before ++ { x with status := .queued } :: after } }
      ∀ i ∈ requests, exec i s = .next (if s.fq.reserved = true then left.slotOver else left).takeLink.finish

/-! ## Timers -/

/-- The roll timeout expires: with the READY in transmission the expiry is kept; otherwise an announced head is retired
FAILED ROLL_TIMEOUT, its READY removed if it was queued and its WITHDRAW queued. The gate wait timer expires: while a
retirement record waits the expiry is kept; otherwise the head is retired FAILED GATE_TIMEOUT and the node is HELD, the
REPORT queued or waiting for room, and the WITHDRAW of a group head queued. The command of a stopped timer, whose occasion
does not stand, leaves the state as it is (the model's choice, notes/assumptions/5.md). -/
def Obligations.RollAndGateTimersExpire : Prop :=
  ∀ (s : State), s.ok →
    (s.roll.timer = none → exec .rollTimeout s = .next s) ∧
    (s.roll.timer ≠ none → s.mc.state = .announcing → s.fq.readySending = true →
      exec .rollTimeout s = .next
        { s with roll := { s.roll with timer := none }, mc := { s.mc with kept := s.mc.kept ++ [.rollTimeout] } }) ∧
    (∀ (m : Move) (rest : List Move), s.mc.queue = m :: rest → s.roll.timer ≠ none →
      (s.mc.state = .armed ∨ (s.mc.state = .announcing ∧ s.fq.readySending = false)) →
      ∃ t, exec .rollTimeout s = .next t ∧
        t = (({ s with
          roll := { s.roll with timer := none }
          fq := { s.fq with entries := s.fq.entries.filter fun e => !(decide (e.status = .queued) && e.frame.isReady) } } :
            State).retire .failed (some .rollTimeout)).finish ∧
        t.mc.state = .held ∧ holdsCause t.mc.causes .rollTimeout = true ∧
        t.mc.queue = rest ∧ t.roll = { s.roll with timer := none } ∧
        t.holdsFrame (.report m.origin
          { tag := m.tag, group := m.group, outcome := .failed, cause := some .rollTimeout, progress := 0, pulses := 0
            position := s.lead.position }) ∧
        (s.fq.readySending = false → ∀ e ∈ t.fq.entries, e.frame.isReady = false) ∧
        (∀ g, m.group = some g → s.withdrawFits → t.holdsFrame (.withdraw g m.tag .rollTimeout)) ∧
        t.store = s.store ∧ t.peer = s.peer ∧ t.lead = s.lead ∧ t.out = s.out ∧ t.inp = s.inp) ∧
    (s.gate.timer = none → exec .gateWaitTimerExpires s = .next s) ∧
    (s.gate.timer ≠ none → s.mc.record ≠ none → exec .gateWaitTimerExpires s = .next
      { s with gate := { s.gate with timer := none }, mc := { s.mc with deferredExpiry := true } }) ∧
    (∀ (m : Move) (rest : List Move), s.mc.queue = m :: rest → s.gate.timer ≠ none → s.mc.record = none →
      let record : Record :=
        { tag := m.tag, group := m.group, outcome := .failed, cause := some .gateTimeout, progress := 0, pulses := 0
          position := s.lead.position }
      ∃ t, exec .gateWaitTimerExpires s = .next t ∧
        t = (({ s with gate := { s.gate with timer := none } } : State).retire .failed (some .gateTimeout)).finish ∧
        t.mc.state = .held ∧
        holdsCause t.mc.causes .gateTimeout = true ∧ t.mc.queue = rest ∧
        (0 < s.fq.free → t.mc.record = none ∧ t.holdsFrame (.report m.origin record)) ∧
        (s.fq.free = 0 → t.mc.record = some { origin := m.origin, record }) ∧
        (∀ g, m.group = some g → s.fq.count .sync < 6 → t.holdsFrame (.withdraw g m.tag .gateTimeout)) ∧
        t.store = s.store ∧ t.peer = s.peer ∧ t.lead = s.lead ∧ t.out = s.out ∧ t.inp = s.inp)

/-- The beacon timer expires: it restarts at the interval in effect, and a BEACON with the node state and the queue depth is
queued when the Frame Queue is empty and the link ACTIVE, and begun at once on an idle bus. The listen timer expires: the
link becomes ACTIVE, the timer stops and every DEFERRED notice is WAITING. The command of a stopped timer, whose occasion
does not stand, leaves the state as it is (the model's choice, notes/assumptions/5.md; of a changed beacon interval see
notes/assumptions/30.md). -/
def Obligations.BeaconAndListenTimersExpire : Prop :=
  ∀ (s : State) (ms : Nat),
    let restarted : State := { s with peer := { s.peer with beaconTimer := some s.timing.beacon } }
    let beacon := fun st : EntryStatus =>
      { s.fq with entries := [{ frame := .beacon s.mc.state s.mc.queue.length, status := st, busy := 0 }] }
    let active : State :=
      { s with
        link := { s.link with state := .active, listenTimer := none }
        mc := { s.mc with notices := s.mc.notices.map fun n =>
          if n.status = .deferred then { n with status := .waiting } else n } }
    (s.peer.beaconTimer = none → exec .beaconTimerExpires s = .next s) ∧
    (s.peer.beaconTimer = some ms → s.link.state ≠ .active ∨ (s.fq.entries ≠ [] ∧ s.link.idleCount ≠ 12) →
      exec .beaconTimerExpires s = .next restarted) ∧
    (s.peer.beaconTimer = some ms → s.link.state = .active → s.fq.entries = [] → s.link.idleCount ≠ 12 →
      exec .beaconTimerExpires s = .next { restarted with fq := beacon .queued }) ∧
    (s.peer.beaconTimer = some ms → s.link.state = .active → s.fq.entries = [] → s.link.idleCount = 12 →
      exec .beaconTimerExpires s = .next
        { restarted with
          fq := beacon .inTransmission
          link := { s.link with idleCount := 0, inFrame := true
                                marks := { checkReject := false, addresseeBusy := false } } }) ∧
    (s.link.listenTimer = none → exec .listenTimerExpires s = .next s) ∧
    (s.link.listenTimer = some ms → exec .listenTimerExpires s = .next active.finish) ∧
    (s.link.listenTimer = some ms → s.settled → (∀ n ∈ s.mc.notices, n.status ≠ .deferred) →
      s.fq.entries = [] ∨ s.link.idleCount ≠ 12 → exec .listenTimerExpires s = .next active)

/-! ## The local inputs -/

/-- A limit is registered asserted: its active level is the filtered level, and if it was not asserted before it acts when
it lies in the direction of the head's distance: a move in hand is stopped at once and ends HALTED LIMIT, its group told by
a notice (NOW, LIMIT, tag); an announced head whose READY is not in transmission fails LIMIT_ACTIVE, its READY removed and
its WITHDRAW queued, and with it in transmission the cause is kept. In every other state, and for the other limit, nothing
more follows. While RESET is asserted nothing is registered (the model's choice, notes/assumptions/1.md). -/
def Obligations.LimitAsserted : Prop :=
  ∀ (side : LimitSide) (s : State), s.ok →
    let c := Instr.limitAsserted side
    let i : InputName := match side with | .positive => .limp | .negative => .limn
    let on : Input := { line := s.activeLevel i, filtered := .ofLevel (s.activeLevel i), filtering := false }
    let u : State := { s with inp := s.inp.set i on }
    let ahead := fun m : Move => (side = .positive ∧ 0 < m.dist) ∨ (side = .negative ∧ m.dist < 0)
    (s.link.inReset = true → exec c s = .next s) ∧
    (s.link.inReset = false →
      (s.asserted i = true ∨ (∀ m ∈ s.mc.queue.head?, ¬ahead m) ∨ (s.mc.state.announced = false ∧ s.mc.state.moving = false) →
        exec c s = .next u) ∧
      ∀ (m : Move) (rest : List Move), s.asserted i = false → s.mc.queue = m :: rest → ahead m →
        (s.mc.state = .announcing → s.fq.readySending = true →
          exec c s = .next { u with mc := { s.mc with kept := s.mc.kept ++ [.limitActive] } }) ∧
        (s.mc.state.moving = true ∨ s.mc.state = .armed ∨ (s.mc.state = .announcing ∧ s.fq.readySending = false) →
          let cause := if s.mc.state.moving = true then Cause.limit else .limitActive
          ∃ t, exec c s = .next t ∧ t.mc.state = .held ∧ holdsCause t.mc.causes cause = true ∧ t.mc.queue = rest ∧
            t.lead.step = none ∧ t.lead.position = s.lead.position ∧
            t.holdsFrame (.report m.origin
              { tag := m.tag, group := m.group
                outcome := if s.mc.state.moving = true then .halted else .failed, cause := some cause
                progress := if s.mc.state.moving = true then s.lead.p else 0
                pulses := if s.mc.state.moving = true then s.lead.pulses else 0, position := s.lead.position }) ∧
            (∀ g, s.mc.state.moving = true → m.group = some g → ∃ n ∈ t.mc.notices, n.group = g ∧
              (n.content.kind = .now ∨ ∃ w, n.upgrade = some w ∧ w.kind = .now) ∧
              (s.noticeFor g = none → n.content = { kind := .now, cause := cause, tag := m.tag })) ∧
            (s.mc.state.announced = true → (s.fq.readySending = false → ∀ x ∈ t.fq.entries, x.frame.isReady = false) ∧
              ∀ g, m.group = some g → s.withdrawFits → t.holdsFrame (.withdraw g m.tag cause)) ∧
            t.inp = u.inp ∧ t.store = s.store ∧ t.peer = s.peer ∧ t.roll.groups = s.roll.groups ∧ t.out = s.out))

/-- DALM or STOPIN is registered asserted: its active level is the filtered level, and if it was not asserted before, on a
configured node, DREN goes inactive; IDLE and PENDING become HELD with the cause and keep the head, HELD adds it, a move in
hand is stopped at once and ends HALTED, its group told by a notice (NOW, the cause, tag), and an announced head whose READY
is not in transmission fails with the cause, its READY removed and its WITHDRAW queued. An UNCONFIGURED node registers
only. -/
def Obligations.DriveAlarmAndStopInputAsserted : Prop :=
  ∀ (alarm : Bool) (s : State), s.ok → s.link.inReset = false →
    let c := if alarm then Instr.dalmAsserted else .stopinAsserted
    let i := if alarm then InputName.dalm else .stopin
    let cause := if alarm then Cause.driveAlarm else .stopInput
    let on : Input := { line := s.activeLevel i, filtered := .ofLevel (s.activeLevel i), filtering := false }
    let u : State := { s with inp := s.inp.set i on }
    let cut : State := { u with out := { s.out with dren := false } }
    let added := { s.mc with causes := withCause s.mc.causes cause }
    (s.asserted i = true ∨ s.mc.state = .unconfigured → exec c s = .next u) ∧
    (s.asserted i = false →
      (s.mc.state = .idle ∨ s.mc.state = .pending →
        exec c s = .next (State.offer { cut with mc := { added with state := .held } })) ∧
      (s.mc.state = .held → exec c s = .next (State.offer { cut with mc := added })) ∧
      (s.mc.state = .announcing → s.fq.readySending = true →
        exec c s = .next { cut with mc := { s.mc with kept := s.mc.kept ++ [cause] } }) ∧
      ∀ (m : Move) (rest : List Move), s.mc.queue = m :: rest →
        s.mc.state.moving = true ∨ s.mc.state = .armed ∨ (s.mc.state = .announcing ∧ s.fq.readySending = false) →
        ∃ t, exec c s = .next t ∧ t.mc.state = .held ∧ holdsCause t.mc.causes cause = true ∧ t.mc.queue = rest ∧
          t.lead.step = none ∧ t.lead.position = s.lead.position ∧
          t.holdsFrame (.report m.origin
            { tag := m.tag, group := m.group
              outcome := if s.mc.state.moving = true then .halted else .failed, cause := some cause
              progress := if s.mc.state.moving = true then s.lead.p else 0
              pulses := if s.mc.state.moving = true then s.lead.pulses else 0, position := s.lead.position }) ∧
          (∀ g, s.mc.state.moving = true → m.group = some g → ∃ n ∈ t.mc.notices, n.group = g ∧
            (n.content.kind = .now ∨ ∃ w, n.upgrade = some w ∧ w.kind = .now) ∧
            (s.noticeFor g = none → n.content = { kind := .now, cause := cause, tag := m.tag })) ∧
          (s.mc.state.announced = true → (s.fq.readySending = false → ∀ x ∈ t.fq.entries, x.frame.isReady = false) ∧
            ∀ g, m.group = some g → s.withdrawFits → t.holdsFrame (.withdraw g m.tag cause)) ∧
          t.out = { s.out with dren := false } ∧ t.inp = u.inp ∧ t.store = s.store ∧ t.peer = s.peer ∧
          t.roll.groups = s.roll.groups)

/-- HOME is registered asserted: its active level is the filtered level, and if it was not asserted before, a SEEK in motion
completes: the lead stops, the position is the home value, every marker still unreached is reached, marker 0 before marker 1,
with MARK REACHED queued while the SYNC share has room and its line active, none is voided, and the move is retired COMPLETE
without a cause, its REPORT giving that position. Nothing else acts on HOME. -/
def Obligations.HomeCompletesASeek : Prop :=
  ∀ (s : State), s.ok → s.link.inReset = false →
    let on : Input :=
      { line := s.activeLevel .home, filtered := .ofLevel (s.activeLevel .home), filtering := false }
    let u : State := { s with inp := s.inp.set .home on }
    (s.asserted .home = true ∨ s.mc.state.moving = false ∨ (∀ m ∈ s.mc.queue.head?, m.kind ≠ .seek) →
      exec .homeAsserted s = .next u) ∧
    (∀ (m : Move) (rest : List Move) (ks : List Marker), s.asserted .home = false → s.mc.state.moving = true →
      s.mc.queue = m :: rest → m.kind = .seek → s.gate.held = some { tag := m.tag, unreached := ks } →
      let order := ks.filter (fun k => k.number = 0) ++ ks.filter (fun k => k.number ≠ 0)
      let marksOf := fun q : FrameQueue => (q.entries.map (·.frame)).filter fun f => match f with
        | .mark t _ _ => decide (t = m.tag)
        | _ => false
      ∃ t, exec .homeAsserted s = .next t ∧
        t.holdsFrame (.report m.origin
          { tag := m.tag, group := m.group, outcome := .complete, cause := none, progress := s.lead.p
            pulses := s.lead.pulses, position := s.homeValue }) ∧
        (s.fq.count .sync + ks.length ≤ 6 →
          marksOf t.fq = marksOf s.fq ++ order.map fun k => .mark m.tag k.number .reached) ∧
        (∀ n, t.holdsFrame (.mark m.tag n .void) → s.holdsFrame (.mark m.tag n .void)) ∧
        (rest = [] ∨ s.mc.causes ≠ 0 → t.out =
          { s.out with mko0 := s.out.mko0 || ks.any fun k => decide (k.line = some .mko0)
                       mko1 := s.out.mko1 || ks.any fun k => decide (k.line = some .mko1) }) ∧
        t.mc.state ≠ .stopping ∧ (∀ x ∈ t.mc.queue, x ∈ rest) ∧
        (rest = [] → t.mc.queue = [] ∧ t.gate.held = none ∧
          t.lead = { s.lead with phase := .stopped, step := none, cap := none, position := s.homeValue }) ∧
        t.inp = u.inp ∧ t.store = s.store ∧ t.peer = s.peer ∧ t.roll.groups = s.roll.groups)

/-- An inactive level that an input registers becomes its filtered level and nothing acts on it. A line that changes starts
its input's filter time afresh and keeps the filtered level, and one that keeps its level changes nothing. A dominant bit
outside a frame sets the idle count to 0 while it is below 12; seen once the bus is idle it is a start mark, which ends the
idle and puts a frame in progress. Nothing else changes. (That the start mark of another party's frame is told by this
command, and that the command of a bit within a frame changes nothing, is the model's choice, notes/assumptions/20.md and
5.md.) -/
def Obligations.InputLevelsAndIdleCount : Prop :=
  ∀ (i : InputName) (l : Level) (s : State),
    let off := (s.activeLevel i).other
    (s.link.inReset = false → exec (.inputChangeInactive i) s = .next
      { s with inp := s.inp.set i { line := off, filtered := .ofLevel off, filtering := false } }) ∧
    ((s.inp.get i).line ≠ l → exec (.lineLevelChange i l) s = .next
      { s with inp := s.inp.set i { line := l, filtered := (s.inp.get i).filtered, filtering := true } }) ∧
    ((s.inp.get i).line = l → exec (.lineLevelChange i l) s = .next s) ∧
    (s.link.inFrame = false → s.link.idleCount < 12 →
      exec .dominantBitOutsideFrame s = .next { s with link := { s.link with idleCount := 0 } }) ∧
    (s.link.inFrame = false → s.link.idleCount = 12 →
      exec .dominantBitOutsideFrame s = .next { s with link := { s.link with idleCount := 0, inFrame := true } }) ∧
    (s.link.inFrame = true → exec .dominantBitOutsideFrame s = .next s)

/-! ## Invariants that every step keeps -/

/-- No command takes a share of the Frame Queue above what it holds, and an entry stands reserved only while a frame is in
progress, on a link that is not OFFLINE, with room left for its reply. -/
def Obligations.SharesKept : Prop :=
  ∀ (c : Instr) (s t : State), s.ok → exec c s = .next t → t.sharesOk

/-- Every command keeps the move queue, the mark list and the notice list within their bounds: 16 moves with distinct tags,
each of at least one lead step and no farther than its lead; 8 records with distinct identities, each named by an unstarted
entry; one notice for each group, which says a cause that a HALT notice can carry, as an upgrade held for it does. -/
def Obligations.ListsKept : Prop :=
  ∀ (c : Instr) (s t : State), s.ok → exec c s = .next t → t.queueOk ∧ t.marksOk ∧ t.noticesOk

/-- Every command keeps the lead within its bounds: while a move is in hand p is below L, c within the ramp length and the
lead steps still to make, and the pulses made are those of p steps; the Gate Unit then holds that move's markers. -/
def Obligations.LeadKept : Prop :=
  ∀ (c : Instr) (s t : State), s.ok → exec c s = .next t → t.leadOk

/-- Every command keeps the hold causes and the queue in step with the node state, the room that an announced or moving head
needs for its REPORT, and the READY: one stands in the Frame Queue exactly while the node is ANNOUNCING, for its head, and
an announced head is a group move. -/
def Obligations.CausesAndRoomKept : Prop :=
  ∀ (c : Instr) (s t : State), s.ok → exec c s = .next t → t.causesOk ∧ t.roomOk ∧ t.readyOk

/-- Every command keeps the configuration sound, with distinct group numbers, members and peers and the group of every
queued move in the group table, and the link sound, the link sending one frame at a time and the bus not idle while a frame
is in progress; and a BLOCKED link stays BLOCKED until RESET or POWER_ON. -/
def Obligations.ConfigurationAndLinkKept : Prop :=
  ∀ (c : Instr) (s t : State), s.ok → exec c s = .next t → t.configOk ∧ t.tablesOk ∧ t.linkOk ∧
    (s.link.state = .blocked → c ≠ .resetAsserted → (∀ addr rate, c ≠ .powerOn addr rate) → t.link.state = .blocked)

/-- Every command ends with nothing left to do: no LINK cause due, no PENDING head ready for its checks, no WAITING notice
while the URGENT share is free. -/
def Obligations.EventsEndSettled : Prop :=
  ∀ (c : Instr) (s t : State), s.settled → exec c s = .next t → t.settled

/-! ## The wire -/

/-- A frame is carried as its fields in their order, each number most significant bit first and a 0 bit dominant: a dominant
start mark, the class, the source, the destination kind and number, the frame kind, the payload length, the payload bytes,
the check, the two mark positions, dominant where a party asserts the mark, and a recessive end mark; and a listener reads
those fields from it. What a sending node carries is that of the entry in transmission, and the manual's READY stands beside
it. A frame this node sends is read back by every node as the frame it is: its check passes, READY, WITHDRAW, HALT, MARK and
BEACON with fields in range are read as the command of their take, every field as sent, and an ACK, NAK, STATUS or REPORT as
a reply. -/
def Obligations.SentFramesReadBack : Prop :=
  (∀ (r : RawFrame) (m : SlotMarks),
    let send := fun (w n : Nat) => (List.range w).map fun i =>
      if n.testBit (w - 1 - i) = true then BusLevel.recessive else .dominant
    let mark := fun asserted : Bool => if asserted = true then BusLevel.dominant else .recessive
    RawFrame.onBus r m = [BusLevel.dominant] ++ send 2 r.cls.toNat ++ send 5 r.source.toNat ++ send 2 r.destKind.toNat ++
      send 6 r.destNum.toNat ++ send 5 r.kind.toNat ++ send 6 r.len.toNat ++ r.payload.flatMap (fun b => send 8 b.toNat) ++
      send 16 r.check.toNat ++ [mark m.checkReject, mark m.addresseeBusy, .recessive] ∧
    (RawFrame.onBus r m).length = 46 + 8 * r.payload.length ∧
    (r.payload.length = min r.len.toNat 32 → RawFrame.ofBus (RawFrame.onBus r m) = r)) ∧
  (∀ (s : State) (e : Entry) (m : SlotMarks), s.fq.sending = some e →
    s.onBus m = some (RawFrame.onBus (e.frame.raw s.self) m)) ∧
  (let r := (OutFrame.ready 2 71).raw 3
   r.cls = 0b01 ∧ r.source = 0b00011 ∧ r.destKind = 0b01 ∧ r.destNum = 0b000010 ∧ r.kind = 0b00001 ∧ r.len = 0b000010 ∧
   r.payload = [0x00, 0x47] ∧ ∀ m, (RawFrame.onBus r m).length = 62) ∧
  ∀ (self other : Addr), 1 ≤ self → self ≤ 30 →
    let reads := fun (f : OutFrame) (i : Instr) =>
      RawFrame.checkPasses (f.raw self) = true ∧ RawFrame.read (f.raw self) other = .command i
    (∀ g t, 1 ≤ g → g ≤ 62 → 1 ≤ t → t ≤ 65535 →
      reads (.ready g t) (.readyTaken self g t) ∧
      (∀ c, reads (.withdraw g t c) (.withdrawTaken self g t c)) ∧
      ∀ k c, reads (.halt g k c t) (.haltTaken self g k c (some t))) ∧
    (∀ t n o, 1 ≤ t → t ≤ 65535 → n ≤ 1 → reads (.mark t n o) (.markTaken self t n o)) ∧
    (∀ st d, d ≤ 16 → reads (.beacon st d) (.beaconTaken self st d)) ∧
    ∀ a, 1 ≤ a → a ≤ 30 →
      (∀ n k d, reads (.ack a n k d) (.replyFrameTaken self)) ∧ (∀ n k r, reads (.nak a n k r) (.replyFrameTaken self)) ∧
      (∀ r, reads (.report a r) (.replyFrameTaken self)) ∧
      (∀ n b, reads (.status a n (.node b)) (.replyFrameTaken self)) ∧
      (∀ n b, b.lines.length ≤ 6 → reads (.status a n (.group b)) (.replyFrameTaken self)) ∧
      ∀ n b, b.lines.length ≤ 3 → reads (.status a n (.queue b)) (.replyFrameTaken self)
end

