-- ==== Sys2Proof/Laws/State.lean ====
section
/-! SUPPORT. One lemma for each field and each block update: the block that an update changes, and every block that it
leaves alone. -/

namespace Sys2Proof.Machine

@[simp] theorem State.updLink_link (s : State) (f : Link → Link) : (s.updLink f).link = f s.link := rfl
@[simp] theorem State.updLink_fq (s : State) (f : Link → Link) : (s.updLink f).fq = s.fq := rfl
@[simp] theorem State.updLink_store (s : State) (f : Link → Link) : (s.updLink f).store = s.store := rfl
@[simp] theorem State.updLink_mc (s : State) (f : Link → Link) : (s.updLink f).mc = s.mc := rfl
@[simp] theorem State.updLink_roll (s : State) (f : Link → Link) : (s.updLink f).roll = s.roll := rfl
@[simp] theorem State.updLink_gate (s : State) (f : Link → Link) : (s.updLink f).gate = s.gate := rfl
@[simp] theorem State.updLink_peer (s : State) (f : Link → Link) : (s.updLink f).peer = s.peer := rfl
@[simp] theorem State.updLink_lead (s : State) (f : Link → Link) : (s.updLink f).lead = s.lead := rfl
@[simp] theorem State.updLink_out (s : State) (f : Link → Link) : (s.updLink f).out = s.out := rfl
@[simp] theorem State.updLink_inp (s : State) (f : Link → Link) : (s.updLink f).inp = s.inp := rfl
@[simp] theorem State.updLink_pending (s : State) (f : Link → Link) : (s.updLink f).pending = s.pending := rfl

@[simp] theorem State.updFq_link (s : State) (f : FrameQueue → FrameQueue) : (s.updFq f).link = s.link := rfl
@[simp] theorem State.updFq_fq (s : State) (f : FrameQueue → FrameQueue) : (s.updFq f).fq = f s.fq := rfl
@[simp] theorem State.updFq_store (s : State) (f : FrameQueue → FrameQueue) : (s.updFq f).store = s.store := rfl
@[simp] theorem State.updFq_mc (s : State) (f : FrameQueue → FrameQueue) : (s.updFq f).mc = s.mc := rfl
@[simp] theorem State.updFq_roll (s : State) (f : FrameQueue → FrameQueue) : (s.updFq f).roll = s.roll := rfl
@[simp] theorem State.updFq_gate (s : State) (f : FrameQueue → FrameQueue) : (s.updFq f).gate = s.gate := rfl
@[simp] theorem State.updFq_peer (s : State) (f : FrameQueue → FrameQueue) : (s.updFq f).peer = s.peer := rfl
@[simp] theorem State.updFq_lead (s : State) (f : FrameQueue → FrameQueue) : (s.updFq f).lead = s.lead := rfl
@[simp] theorem State.updFq_out (s : State) (f : FrameQueue → FrameQueue) : (s.updFq f).out = s.out := rfl
@[simp] theorem State.updFq_inp (s : State) (f : FrameQueue → FrameQueue) : (s.updFq f).inp = s.inp := rfl
@[simp] theorem State.updFq_pending (s : State) (f : FrameQueue → FrameQueue) : (s.updFq f).pending = s.pending := rfl

@[simp] theorem State.updStore_link (s : State) (f : Store → Store) : (s.updStore f).link = s.link := rfl
@[simp] theorem State.updStore_fq (s : State) (f : Store → Store) : (s.updStore f).fq = s.fq := rfl
@[simp] theorem State.updStore_store (s : State) (f : Store → Store) : (s.updStore f).store = f s.store := rfl
@[simp] theorem State.updStore_mc (s : State) (f : Store → Store) : (s.updStore f).mc = s.mc := rfl
@[simp] theorem State.updStore_roll (s : State) (f : Store → Store) : (s.updStore f).roll = s.roll := rfl
@[simp] theorem State.updStore_gate (s : State) (f : Store → Store) : (s.updStore f).gate = s.gate := rfl
@[simp] theorem State.updStore_peer (s : State) (f : Store → Store) : (s.updStore f).peer = s.peer := rfl
@[simp] theorem State.updStore_lead (s : State) (f : Store → Store) : (s.updStore f).lead = s.lead := rfl
@[simp] theorem State.updStore_out (s : State) (f : Store → Store) : (s.updStore f).out = s.out := rfl
@[simp] theorem State.updStore_inp (s : State) (f : Store → Store) : (s.updStore f).inp = s.inp := rfl
@[simp] theorem State.updStore_pending (s : State) (f : Store → Store) : (s.updStore f).pending = s.pending := rfl

@[simp] theorem State.updMc_link (s : State) (f : MoveCtl → MoveCtl) : (s.updMc f).link = s.link := rfl
@[simp] theorem State.updMc_fq (s : State) (f : MoveCtl → MoveCtl) : (s.updMc f).fq = s.fq := rfl
@[simp] theorem State.updMc_store (s : State) (f : MoveCtl → MoveCtl) : (s.updMc f).store = s.store := rfl
@[simp] theorem State.updMc_mc (s : State) (f : MoveCtl → MoveCtl) : (s.updMc f).mc = f s.mc := rfl
@[simp] theorem State.updMc_roll (s : State) (f : MoveCtl → MoveCtl) : (s.updMc f).roll = s.roll := rfl
@[simp] theorem State.updMc_gate (s : State) (f : MoveCtl → MoveCtl) : (s.updMc f).gate = s.gate := rfl
@[simp] theorem State.updMc_peer (s : State) (f : MoveCtl → MoveCtl) : (s.updMc f).peer = s.peer := rfl
@[simp] theorem State.updMc_lead (s : State) (f : MoveCtl → MoveCtl) : (s.updMc f).lead = s.lead := rfl
@[simp] theorem State.updMc_out (s : State) (f : MoveCtl → MoveCtl) : (s.updMc f).out = s.out := rfl
@[simp] theorem State.updMc_inp (s : State) (f : MoveCtl → MoveCtl) : (s.updMc f).inp = s.inp := rfl
@[simp] theorem State.updMc_pending (s : State) (f : MoveCtl → MoveCtl) : (s.updMc f).pending = s.pending := rfl

@[simp] theorem State.updRoll_link (s : State) (f : RollUnit → RollUnit) : (s.updRoll f).link = s.link := rfl
@[simp] theorem State.updRoll_fq (s : State) (f : RollUnit → RollUnit) : (s.updRoll f).fq = s.fq := rfl
@[simp] theorem State.updRoll_store (s : State) (f : RollUnit → RollUnit) : (s.updRoll f).store = s.store := rfl
@[simp] theorem State.updRoll_mc (s : State) (f : RollUnit → RollUnit) : (s.updRoll f).mc = s.mc := rfl
@[simp] theorem State.updRoll_roll (s : State) (f : RollUnit → RollUnit) : (s.updRoll f).roll = f s.roll := rfl
@[simp] theorem State.updRoll_gate (s : State) (f : RollUnit → RollUnit) : (s.updRoll f).gate = s.gate := rfl
@[simp] theorem State.updRoll_peer (s : State) (f : RollUnit → RollUnit) : (s.updRoll f).peer = s.peer := rfl
@[simp] theorem State.updRoll_lead (s : State) (f : RollUnit → RollUnit) : (s.updRoll f).lead = s.lead := rfl
@[simp] theorem State.updRoll_out (s : State) (f : RollUnit → RollUnit) : (s.updRoll f).out = s.out := rfl
@[simp] theorem State.updRoll_inp (s : State) (f : RollUnit → RollUnit) : (s.updRoll f).inp = s.inp := rfl
@[simp] theorem State.updRoll_pending (s : State) (f : RollUnit → RollUnit) : (s.updRoll f).pending = s.pending := rfl

@[simp] theorem State.updGate_link (s : State) (f : GateUnit → GateUnit) : (s.updGate f).link = s.link := rfl
@[simp] theorem State.updGate_fq (s : State) (f : GateUnit → GateUnit) : (s.updGate f).fq = s.fq := rfl
@[simp] theorem State.updGate_store (s : State) (f : GateUnit → GateUnit) : (s.updGate f).store = s.store := rfl
@[simp] theorem State.updGate_mc (s : State) (f : GateUnit → GateUnit) : (s.updGate f).mc = s.mc := rfl
@[simp] theorem State.updGate_roll (s : State) (f : GateUnit → GateUnit) : (s.updGate f).roll = s.roll := rfl
@[simp] theorem State.updGate_gate (s : State) (f : GateUnit → GateUnit) : (s.updGate f).gate = f s.gate := rfl
@[simp] theorem State.updGate_peer (s : State) (f : GateUnit → GateUnit) : (s.updGate f).peer = s.peer := rfl
@[simp] theorem State.updGate_lead (s : State) (f : GateUnit → GateUnit) : (s.updGate f).lead = s.lead := rfl
@[simp] theorem State.updGate_out (s : State) (f : GateUnit → GateUnit) : (s.updGate f).out = s.out := rfl
@[simp] theorem State.updGate_inp (s : State) (f : GateUnit → GateUnit) : (s.updGate f).inp = s.inp := rfl
@[simp] theorem State.updGate_pending (s : State) (f : GateUnit → GateUnit) : (s.updGate f).pending = s.pending := rfl

@[simp] theorem State.updPeer_link (s : State) (f : PeerTable → PeerTable) : (s.updPeer f).link = s.link := rfl
@[simp] theorem State.updPeer_fq (s : State) (f : PeerTable → PeerTable) : (s.updPeer f).fq = s.fq := rfl
@[simp] theorem State.updPeer_store (s : State) (f : PeerTable → PeerTable) : (s.updPeer f).store = s.store := rfl
@[simp] theorem State.updPeer_mc (s : State) (f : PeerTable → PeerTable) : (s.updPeer f).mc = s.mc := rfl
@[simp] theorem State.updPeer_roll (s : State) (f : PeerTable → PeerTable) : (s.updPeer f).roll = s.roll := rfl
@[simp] theorem State.updPeer_gate (s : State) (f : PeerTable → PeerTable) : (s.updPeer f).gate = s.gate := rfl
@[simp] theorem State.updPeer_peer (s : State) (f : PeerTable → PeerTable) : (s.updPeer f).peer = f s.peer := rfl
@[simp] theorem State.updPeer_lead (s : State) (f : PeerTable → PeerTable) : (s.updPeer f).lead = s.lead := rfl
@[simp] theorem State.updPeer_out (s : State) (f : PeerTable → PeerTable) : (s.updPeer f).out = s.out := rfl
@[simp] theorem State.updPeer_inp (s : State) (f : PeerTable → PeerTable) : (s.updPeer f).inp = s.inp := rfl
@[simp] theorem State.updPeer_pending (s : State) (f : PeerTable → PeerTable) : (s.updPeer f).pending = s.pending := rfl

@[simp] theorem State.updLead_link (s : State) (f : Lead → Lead) : (s.updLead f).link = s.link := rfl
@[simp] theorem State.updLead_fq (s : State) (f : Lead → Lead) : (s.updLead f).fq = s.fq := rfl
@[simp] theorem State.updLead_store (s : State) (f : Lead → Lead) : (s.updLead f).store = s.store := rfl
@[simp] theorem State.updLead_mc (s : State) (f : Lead → Lead) : (s.updLead f).mc = s.mc := rfl
@[simp] theorem State.updLead_roll (s : State) (f : Lead → Lead) : (s.updLead f).roll = s.roll := rfl
@[simp] theorem State.updLead_gate (s : State) (f : Lead → Lead) : (s.updLead f).gate = s.gate := rfl
@[simp] theorem State.updLead_peer (s : State) (f : Lead → Lead) : (s.updLead f).peer = s.peer := rfl
@[simp] theorem State.updLead_lead (s : State) (f : Lead → Lead) : (s.updLead f).lead = f s.lead := rfl
@[simp] theorem State.updLead_out (s : State) (f : Lead → Lead) : (s.updLead f).out = s.out := rfl
@[simp] theorem State.updLead_inp (s : State) (f : Lead → Lead) : (s.updLead f).inp = s.inp := rfl
@[simp] theorem State.updLead_pending (s : State) (f : Lead → Lead) : (s.updLead f).pending = s.pending := rfl

@[simp] theorem State.updOut_link (s : State) (f : Outputs → Outputs) : (s.updOut f).link = s.link := rfl
@[simp] theorem State.updOut_fq (s : State) (f : Outputs → Outputs) : (s.updOut f).fq = s.fq := rfl
@[simp] theorem State.updOut_store (s : State) (f : Outputs → Outputs) : (s.updOut f).store = s.store := rfl
@[simp] theorem State.updOut_mc (s : State) (f : Outputs → Outputs) : (s.updOut f).mc = s.mc := rfl
@[simp] theorem State.updOut_roll (s : State) (f : Outputs → Outputs) : (s.updOut f).roll = s.roll := rfl
@[simp] theorem State.updOut_gate (s : State) (f : Outputs → Outputs) : (s.updOut f).gate = s.gate := rfl
@[simp] theorem State.updOut_peer (s : State) (f : Outputs → Outputs) : (s.updOut f).peer = s.peer := rfl
@[simp] theorem State.updOut_lead (s : State) (f : Outputs → Outputs) : (s.updOut f).lead = s.lead := rfl
@[simp] theorem State.updOut_out (s : State) (f : Outputs → Outputs) : (s.updOut f).out = f s.out := rfl
@[simp] theorem State.updOut_inp (s : State) (f : Outputs → Outputs) : (s.updOut f).inp = s.inp := rfl
@[simp] theorem State.updOut_pending (s : State) (f : Outputs → Outputs) : (s.updOut f).pending = s.pending := rfl

@[simp] theorem State.updInp_link (s : State) (f : Inputs → Inputs) : (s.updInp f).link = s.link := rfl
@[simp] theorem State.updInp_fq (s : State) (f : Inputs → Inputs) : (s.updInp f).fq = s.fq := rfl
@[simp] theorem State.updInp_store (s : State) (f : Inputs → Inputs) : (s.updInp f).store = s.store := rfl
@[simp] theorem State.updInp_mc (s : State) (f : Inputs → Inputs) : (s.updInp f).mc = s.mc := rfl
@[simp] theorem State.updInp_roll (s : State) (f : Inputs → Inputs) : (s.updInp f).roll = s.roll := rfl
@[simp] theorem State.updInp_gate (s : State) (f : Inputs → Inputs) : (s.updInp f).gate = s.gate := rfl
@[simp] theorem State.updInp_peer (s : State) (f : Inputs → Inputs) : (s.updInp f).peer = s.peer := rfl
@[simp] theorem State.updInp_lead (s : State) (f : Inputs → Inputs) : (s.updInp f).lead = s.lead := rfl
@[simp] theorem State.updInp_out (s : State) (f : Inputs → Inputs) : (s.updInp f).out = s.out := rfl
@[simp] theorem State.updInp_inp (s : State) (f : Inputs → Inputs) : (s.updInp f).inp = f s.inp := rfl
@[simp] theorem State.updInp_pending (s : State) (f : Inputs → Inputs) : (s.updInp f).pending = s.pending := rfl

end Sys2Proof.Machine
end

