-- ==== Sys2Proof/Laws/Frames.lean ====
section
/-! SUPPORT. What each shared operation leaves alone: one frame lemma for each operation, over the blocks of the state and,
where it changes the Move Controller, over the fields of that block. -/

namespace Sys2Proof.Machine

@[simp] theorem State.push_frame (f : OutFrame) (s : State) :
    (s.push f).link = s.link ∧
    (s.push f).store = s.store ∧
    (s.push f).mc = s.mc ∧
    (s.push f).roll = s.roll ∧
    (s.push f).gate = s.gate ∧
    (s.push f).peer = s.peer ∧
    (s.push f).lead = s.lead ∧
    (s.push f).out = s.out ∧
    (s.push f).inp = s.inp ∧
    (s.push f).pending = s.pending := by simp [State.push]

@[simp] theorem State.queueSync_frame (f : OutFrame) (s : State) :
    (s.queueSync f).link = s.link ∧
    (s.queueSync f).store = s.store ∧
    (s.queueSync f).roll = s.roll ∧
    (s.queueSync f).gate = s.gate ∧
    (s.queueSync f).peer = s.peer ∧
    (s.queueSync f).lead = s.lead ∧
    (s.queueSync f).out = s.out ∧
    (s.queueSync f).inp = s.inp ∧
    (s.queueSync f).pending = s.pending ∧
    (s.queueSync f).mc.state = s.mc.state ∧
    (s.queueSync f).mc.queue = s.mc.queue ∧
    (s.queueSync f).mc.causes = s.mc.causes ∧
    (s.queueSync f).mc.holdPending = s.mc.holdPending ∧
    (s.queueSync f).mc.record = s.mc.record ∧
    (s.queueSync f).mc.deferredExpiry = s.mc.deferredExpiry ∧
    (s.queueSync f).mc.notices = s.mc.notices ∧
    (s.queueSync f).mc.kept = s.mc.kept ∧
    (s.queueSync f).mc.descentCause = s.mc.descentCause := by
  unfold State.queueSync
  try dsimp only
  repeat' split
  all_goals simp

@[simp] theorem State.removeReady_frame (s : State) :
    (s.removeReady).link = s.link ∧
    (s.removeReady).store = s.store ∧
    (s.removeReady).mc = s.mc ∧
    (s.removeReady).roll = s.roll ∧
    (s.removeReady).gate = s.gate ∧
    (s.removeReady).peer = s.peer ∧
    (s.removeReady).lead = s.lead ∧
    (s.removeReady).out = s.out ∧
    (s.removeReady).inp = s.inp ∧
    (s.removeReady).pending = s.pending := by simp [State.removeReady]

@[simp] theorem State.afterSlot_frame (m : SlotMarks) (s : State) :
    (s.afterSlot m).fq = s.fq ∧
    (s.afterSlot m).store = s.store ∧
    (s.afterSlot m).mc = s.mc ∧
    (s.afterSlot m).roll = s.roll ∧
    (s.afterSlot m).gate = s.gate ∧
    (s.afterSlot m).peer = s.peer ∧
    (s.afterSlot m).lead = s.lead ∧
    (s.afterSlot m).out = s.out ∧
    (s.afterSlot m).inp = s.inp ∧
    (s.afterSlot m).pending = s.pending := by simp [State.afterSlot]

@[simp] theorem State.offer_frame (s : State) :
    (s.offer).store = s.store ∧
    (s.offer).mc = s.mc ∧
    (s.offer).roll = s.roll ∧
    (s.offer).gate = s.gate ∧
    (s.offer).peer = s.peer ∧
    (s.offer).lead = s.lead ∧
    (s.offer).out = s.out ∧
    (s.offer).inp = s.inp ∧
    (s.offer).pending = s.pending := by
  unfold State.offer
  try dsimp only
  repeat' split
  all_goals simp

@[simp] theorem State.addCause_frame (c : Cause) (s : State) :
    (s.addCause c).link = s.link ∧
    (s.addCause c).fq = s.fq ∧
    (s.addCause c).store = s.store ∧
    (s.addCause c).roll = s.roll ∧
    (s.addCause c).gate = s.gate ∧
    (s.addCause c).peer = s.peer ∧
    (s.addCause c).lead = s.lead ∧
    (s.addCause c).out = s.out ∧
    (s.addCause c).inp = s.inp ∧
    (s.addCause c).pending = s.pending ∧
    (s.addCause c).mc.state = s.mc.state ∧
    (s.addCause c).mc.queue = s.mc.queue ∧
    (s.addCause c).mc.holdPending = s.mc.holdPending ∧
    (s.addCause c).mc.record = s.mc.record ∧
    (s.addCause c).mc.deferredExpiry = s.mc.deferredExpiry ∧
    (s.addCause c).mc.notices = s.mc.notices ∧
    (s.addCause c).mc.kept = s.mc.kept ∧
    (s.addCause c).mc.descentCause = s.mc.descentCause ∧
    (s.addCause c).mc.linkDue = s.mc.linkDue := by simp [State.addCause]

@[simp] theorem State.addCauses_frame (cs : List Cause) (s : State) :
    (s.addCauses cs).link = s.link ∧
    (s.addCauses cs).fq = s.fq ∧
    (s.addCauses cs).store = s.store ∧
    (s.addCauses cs).roll = s.roll ∧
    (s.addCauses cs).gate = s.gate ∧
    (s.addCauses cs).peer = s.peer ∧
    (s.addCauses cs).lead = s.lead ∧
    (s.addCauses cs).out = s.out ∧
    (s.addCauses cs).inp = s.inp ∧
    (s.addCauses cs).pending = s.pending ∧
    (s.addCauses cs).mc.state = s.mc.state ∧
    (s.addCauses cs).mc.queue = s.mc.queue ∧
    (s.addCauses cs).mc.holdPending = s.mc.holdPending ∧
    (s.addCauses cs).mc.record = s.mc.record ∧
    (s.addCauses cs).mc.deferredExpiry = s.mc.deferredExpiry ∧
    (s.addCauses cs).mc.notices = s.mc.notices ∧
    (s.addCauses cs).mc.kept = s.mc.kept ∧
    (s.addCauses cs).mc.descentCause = s.mc.descentCause ∧
    (s.addCauses cs).mc.linkDue = s.mc.linkDue := by
  induction cs generalizing s with
  | nil => simp [State.addCauses]
  | cons a l ih => simp [State.addCauses, ih]

@[simp] theorem State.hold_frame (c : Cause) (s : State) :
    (s.hold c).link = s.link ∧
    (s.hold c).fq = s.fq ∧
    (s.hold c).store = s.store ∧
    (s.hold c).roll = s.roll ∧
    (s.hold c).gate = s.gate ∧
    (s.hold c).peer = s.peer ∧
    (s.hold c).lead = s.lead ∧
    (s.hold c).out = s.out ∧
    (s.hold c).inp = s.inp ∧
    (s.hold c).pending = s.pending ∧
    (s.hold c).mc.queue = s.mc.queue ∧
    (s.hold c).mc.holdPending = s.mc.holdPending ∧
    (s.hold c).mc.record = s.mc.record ∧
    (s.hold c).mc.deferredExpiry = s.mc.deferredExpiry ∧
    (s.hold c).mc.notices = s.mc.notices ∧
    (s.hold c).mc.kept = s.mc.kept ∧
    (s.hold c).mc.descentCause = s.mc.descentCause ∧
    (s.hold c).mc.linkDue = s.mc.linkDue := by simp [State.hold]

@[simp] theorem State.register_frame (i : InputName) (l : Level) (s : State) :
    (s.register i l).link = s.link ∧
    (s.register i l).fq = s.fq ∧
    (s.register i l).store = s.store ∧
    (s.register i l).mc = s.mc ∧
    (s.register i l).roll = s.roll ∧
    (s.register i l).gate = s.gate ∧
    (s.register i l).peer = s.peer ∧
    (s.register i l).lead = s.lead ∧
    (s.register i l).out = s.out ∧
    (s.register i l).pending = s.pending := by simp [State.register]

@[simp] theorem State.raiseNotice_frame (g : GroupNo) (n : NoticeContent) (d : Bool) (s : State) :
    (s.raiseNotice g n d).link = s.link ∧
    (s.raiseNotice g n d).store = s.store ∧
    (s.raiseNotice g n d).roll = s.roll ∧
    (s.raiseNotice g n d).gate = s.gate ∧
    (s.raiseNotice g n d).peer = s.peer ∧
    (s.raiseNotice g n d).lead = s.lead ∧
    (s.raiseNotice g n d).out = s.out ∧
    (s.raiseNotice g n d).inp = s.inp ∧
    (s.raiseNotice g n d).pending = s.pending ∧
    (s.raiseNotice g n d).mc.state = s.mc.state ∧
    (s.raiseNotice g n d).mc.queue = s.mc.queue ∧
    (s.raiseNotice g n d).mc.causes = s.mc.causes ∧
    (s.raiseNotice g n d).mc.holdPending = s.mc.holdPending ∧
    (s.raiseNotice g n d).mc.record = s.mc.record ∧
    (s.raiseNotice g n d).mc.deferredExpiry = s.mc.deferredExpiry ∧
    (s.raiseNotice g n d).mc.kept = s.mc.kept ∧
    (s.raiseNotice g n d).mc.descentCause = s.mc.descentCause ∧
    (s.raiseNotice g n d).mc.linkDue = s.mc.linkDue := by
  unfold State.raiseNotice
  try dsimp only
  repeat' split
  all_goals simp

@[simp] theorem State.noticeReturned_frame (g : GroupNo) (s : State) :
    (s.noticeReturned g).link = s.link ∧
    (s.noticeReturned g).store = s.store ∧
    (s.noticeReturned g).roll = s.roll ∧
    (s.noticeReturned g).gate = s.gate ∧
    (s.noticeReturned g).peer = s.peer ∧
    (s.noticeReturned g).lead = s.lead ∧
    (s.noticeReturned g).out = s.out ∧
    (s.noticeReturned g).inp = s.inp ∧
    (s.noticeReturned g).pending = s.pending ∧
    (s.noticeReturned g).mc.state = s.mc.state ∧
    (s.noticeReturned g).mc.queue = s.mc.queue ∧
    (s.noticeReturned g).mc.causes = s.mc.causes ∧
    (s.noticeReturned g).mc.holdPending = s.mc.holdPending ∧
    (s.noticeReturned g).mc.record = s.mc.record ∧
    (s.noticeReturned g).mc.deferredExpiry = s.mc.deferredExpiry ∧
    (s.noticeReturned g).mc.kept = s.mc.kept ∧
    (s.noticeReturned g).mc.descentCause = s.mc.descentCause ∧
    (s.noticeReturned g).mc.linkDue = s.mc.linkDue := by
  unfold State.noticeReturned
  try dsimp only
  repeat' split
  all_goals simp

@[simp] theorem State.noticeTaken_frame (g : GroupNo) (s : State) :
    (s.noticeTaken g).link = s.link ∧
    (s.noticeTaken g).fq = s.fq ∧
    (s.noticeTaken g).store = s.store ∧
    (s.noticeTaken g).roll = s.roll ∧
    (s.noticeTaken g).gate = s.gate ∧
    (s.noticeTaken g).peer = s.peer ∧
    (s.noticeTaken g).lead = s.lead ∧
    (s.noticeTaken g).out = s.out ∧
    (s.noticeTaken g).inp = s.inp ∧
    (s.noticeTaken g).pending = s.pending ∧
    (s.noticeTaken g).mc.state = s.mc.state ∧
    (s.noticeTaken g).mc.queue = s.mc.queue ∧
    (s.noticeTaken g).mc.causes = s.mc.causes ∧
    (s.noticeTaken g).mc.holdPending = s.mc.holdPending ∧
    (s.noticeTaken g).mc.record = s.mc.record ∧
    (s.noticeTaken g).mc.deferredExpiry = s.mc.deferredExpiry ∧
    (s.noticeTaken g).mc.kept = s.mc.kept ∧
    (s.noticeTaken g).mc.descentCause = s.mc.descentCause ∧
    (s.noticeTaken g).mc.linkDue = s.mc.linkDue := by
  unfold State.noticeTaken
  try dsimp only
  repeat' split
  all_goals simp

@[simp] theorem State.noticeDiscarded_frame (g : GroupNo) (s : State) :
    (s.noticeDiscarded g).link = s.link ∧
    (s.noticeDiscarded g).store = s.store ∧
    (s.noticeDiscarded g).roll = s.roll ∧
    (s.noticeDiscarded g).gate = s.gate ∧
    (s.noticeDiscarded g).peer = s.peer ∧
    (s.noticeDiscarded g).lead = s.lead ∧
    (s.noticeDiscarded g).out = s.out ∧
    (s.noticeDiscarded g).inp = s.inp ∧
    (s.noticeDiscarded g).pending = s.pending ∧
    (s.noticeDiscarded g).mc.state = s.mc.state ∧
    (s.noticeDiscarded g).mc.queue = s.mc.queue ∧
    (s.noticeDiscarded g).mc.causes = s.mc.causes ∧
    (s.noticeDiscarded g).mc.holdPending = s.mc.holdPending ∧
    (s.noticeDiscarded g).mc.record = s.mc.record ∧
    (s.noticeDiscarded g).mc.deferredExpiry = s.mc.deferredExpiry ∧
    (s.noticeDiscarded g).mc.kept = s.mc.kept ∧
    (s.noticeDiscarded g).mc.descentCause = s.mc.descentCause ∧
    (s.noticeDiscarded g).mc.linkDue = s.mc.linkDue := by
  unfold State.noticeDiscarded
  try dsimp only
  repeat' split
  all_goals simp

@[simp] theorem State.haltMeetsNotice_frame (g : GroupNo) (k : HaltKind) (s : State) :
    (s.haltMeetsNotice g k).link = s.link ∧
    (s.haltMeetsNotice g k).store = s.store ∧
    (s.haltMeetsNotice g k).roll = s.roll ∧
    (s.haltMeetsNotice g k).gate = s.gate ∧
    (s.haltMeetsNotice g k).peer = s.peer ∧
    (s.haltMeetsNotice g k).lead = s.lead ∧
    (s.haltMeetsNotice g k).out = s.out ∧
    (s.haltMeetsNotice g k).inp = s.inp ∧
    (s.haltMeetsNotice g k).pending = s.pending ∧
    (s.haltMeetsNotice g k).mc.state = s.mc.state ∧
    (s.haltMeetsNotice g k).mc.queue = s.mc.queue ∧
    (s.haltMeetsNotice g k).mc.causes = s.mc.causes ∧
    (s.haltMeetsNotice g k).mc.holdPending = s.mc.holdPending ∧
    (s.haltMeetsNotice g k).mc.record = s.mc.record ∧
    (s.haltMeetsNotice g k).mc.deferredExpiry = s.mc.deferredExpiry ∧
    (s.haltMeetsNotice g k).mc.kept = s.mc.kept ∧
    (s.haltMeetsNotice g k).mc.descentCause = s.mc.descentCause ∧
    (s.haltMeetsNotice g k).mc.linkDue = s.mc.linkDue := by
  unfold State.haltMeetsNotice
  try dsimp only
  repeat' split
  all_goals simp

@[simp] theorem State.releaseDeferred_frame (s : State) :
    (s.releaseDeferred).link = s.link ∧
    (s.releaseDeferred).fq = s.fq ∧
    (s.releaseDeferred).store = s.store ∧
    (s.releaseDeferred).roll = s.roll ∧
    (s.releaseDeferred).gate = s.gate ∧
    (s.releaseDeferred).peer = s.peer ∧
    (s.releaseDeferred).lead = s.lead ∧
    (s.releaseDeferred).out = s.out ∧
    (s.releaseDeferred).inp = s.inp ∧
    (s.releaseDeferred).pending = s.pending ∧
    (s.releaseDeferred).mc.state = s.mc.state ∧
    (s.releaseDeferred).mc.queue = s.mc.queue ∧
    (s.releaseDeferred).mc.causes = s.mc.causes ∧
    (s.releaseDeferred).mc.holdPending = s.mc.holdPending ∧
    (s.releaseDeferred).mc.record = s.mc.record ∧
    (s.releaseDeferred).mc.deferredExpiry = s.mc.deferredExpiry ∧
    (s.releaseDeferred).mc.kept = s.mc.kept ∧
    (s.releaseDeferred).mc.descentCause = s.mc.descentCause ∧
    (s.releaseDeferred).mc.linkDue = s.mc.linkDue := by simp [State.releaseDeferred]

@[simp] theorem State.fillUrgent_frame (s : State) :
    (s.fillUrgent).link = s.link ∧
    (s.fillUrgent).store = s.store ∧
    (s.fillUrgent).roll = s.roll ∧
    (s.fillUrgent).gate = s.gate ∧
    (s.fillUrgent).peer = s.peer ∧
    (s.fillUrgent).lead = s.lead ∧
    (s.fillUrgent).out = s.out ∧
    (s.fillUrgent).inp = s.inp ∧
    (s.fillUrgent).pending = s.pending ∧
    (s.fillUrgent).mc.state = s.mc.state ∧
    (s.fillUrgent).mc.queue = s.mc.queue ∧
    (s.fillUrgent).mc.causes = s.mc.causes ∧
    (s.fillUrgent).mc.holdPending = s.mc.holdPending ∧
    (s.fillUrgent).mc.record = s.mc.record ∧
    (s.fillUrgent).mc.deferredExpiry = s.mc.deferredExpiry ∧
    (s.fillUrgent).mc.kept = s.mc.kept ∧
    (s.fillUrgent).mc.descentCause = s.mc.descentCause ∧
    (s.fillUrgent).mc.linkDue = s.mc.linkDue := by
  unfold State.fillUrgent
  try dsimp only
  repeat' split
  all_goals simp

@[simp] theorem State.judgeGates_frame (s : State) :
    (s.judgeGates).link = s.link ∧
    (s.judgeGates).fq = s.fq ∧
    (s.judgeGates).store = s.store ∧
    (s.judgeGates).mc = s.mc ∧
    (s.judgeGates).roll = s.roll ∧
    (s.judgeGates).peer = s.peer ∧
    (s.judgeGates).lead = s.lead ∧
    (s.judgeGates).out = s.out ∧
    (s.judgeGates).inp = s.inp ∧
    (s.judgeGates).pending = s.pending := by
  unfold State.judgeGates
  try dsimp only
  repeat' split
  all_goals simp

@[simp] theorem State.markTake_frame (src : Addr) (t : Tag) (n : Nat) (o : MarkOutcome) (s : State) :
    (s.markTake src t n o).link = s.link ∧
    (s.markTake src t n o).fq = s.fq ∧
    (s.markTake src t n o).store = s.store ∧
    (s.markTake src t n o).mc = s.mc ∧
    (s.markTake src t n o).roll = s.roll ∧
    (s.markTake src t n o).peer = s.peer ∧
    (s.markTake src t n o).lead = s.lead ∧
    (s.markTake src t n o).out = s.out ∧
    (s.markTake src t n o).inp = s.inp ∧
    (s.markTake src t n o).pending = s.pending := by
  unfold State.markTake
  try dsimp only
  repeat' split
  all_goals simp

@[simp] theorem State.reachAll_frame (t : Tag) (ms : List Marker) (s : State) :
    (s.reachAll t ms).link = s.link ∧
    (s.reachAll t ms).store = s.store ∧
    (s.reachAll t ms).roll = s.roll ∧
    (s.reachAll t ms).gate = s.gate ∧
    (s.reachAll t ms).peer = s.peer ∧
    (s.reachAll t ms).lead = s.lead ∧
    (s.reachAll t ms).inp = s.inp ∧
    (s.reachAll t ms).pending = s.pending ∧
    (s.reachAll t ms).mc.state = s.mc.state ∧
    (s.reachAll t ms).mc.queue = s.mc.queue ∧
    (s.reachAll t ms).mc.causes = s.mc.causes ∧
    (s.reachAll t ms).mc.holdPending = s.mc.holdPending ∧
    (s.reachAll t ms).mc.record = s.mc.record ∧
    (s.reachAll t ms).mc.deferredExpiry = s.mc.deferredExpiry ∧
    (s.reachAll t ms).mc.notices = s.mc.notices ∧
    (s.reachAll t ms).mc.kept = s.mc.kept ∧
    (s.reachAll t ms).mc.descentCause = s.mc.descentCause := by
  induction ms generalizing s with
  | nil => simp [State.reachAll]
  | cons a l ih => simp [State.reachAll, ih]

@[simp] theorem State.reach_frame (p : Marker → Bool) (s : State) :
    (s.reach p).link = s.link ∧
    (s.reach p).store = s.store ∧
    (s.reach p).roll = s.roll ∧
    (s.reach p).peer = s.peer ∧
    (s.reach p).lead = s.lead ∧
    (s.reach p).inp = s.inp ∧
    (s.reach p).pending = s.pending ∧
    (s.reach p).mc.state = s.mc.state ∧
    (s.reach p).mc.queue = s.mc.queue ∧
    (s.reach p).mc.causes = s.mc.causes ∧
    (s.reach p).mc.holdPending = s.mc.holdPending ∧
    (s.reach p).mc.record = s.mc.record ∧
    (s.reach p).mc.deferredExpiry = s.mc.deferredExpiry ∧
    (s.reach p).mc.notices = s.mc.notices ∧
    (s.reach p).mc.kept = s.mc.kept ∧
    (s.reach p).mc.descentCause = s.mc.descentCause := by
  unfold State.reach
  try dsimp only
  repeat' split
  all_goals simp

@[simp] theorem State.voidAll_frame (t : Tag) (ms : List Marker) (s : State) :
    (s.voidAll t ms).link = s.link ∧
    (s.voidAll t ms).store = s.store ∧
    (s.voidAll t ms).roll = s.roll ∧
    (s.voidAll t ms).gate = s.gate ∧
    (s.voidAll t ms).peer = s.peer ∧
    (s.voidAll t ms).lead = s.lead ∧
    (s.voidAll t ms).out = s.out ∧
    (s.voidAll t ms).inp = s.inp ∧
    (s.voidAll t ms).pending = s.pending ∧
    (s.voidAll t ms).mc.state = s.mc.state ∧
    (s.voidAll t ms).mc.queue = s.mc.queue ∧
    (s.voidAll t ms).mc.causes = s.mc.causes ∧
    (s.voidAll t ms).mc.holdPending = s.mc.holdPending ∧
    (s.voidAll t ms).mc.record = s.mc.record ∧
    (s.voidAll t ms).mc.deferredExpiry = s.mc.deferredExpiry ∧
    (s.voidAll t ms).mc.notices = s.mc.notices ∧
    (s.voidAll t ms).mc.kept = s.mc.kept ∧
    (s.voidAll t ms).mc.descentCause = s.mc.descentCause := by
  induction ms generalizing s with
  | nil => simp [State.voidAll]
  | cons a l ih => simp [State.voidAll, ih]

@[simp] theorem State.startMove_frame (m : Move) (s : State) :
    (s.startMove m).link = s.link ∧
    (s.startMove m).fq = s.fq ∧
    (s.startMove m).store = s.store ∧
    (s.startMove m).peer = s.peer ∧
    (s.startMove m).inp = s.inp ∧
    (s.startMove m).pending = s.pending ∧
    (s.startMove m).mc.queue = s.mc.queue ∧
    (s.startMove m).mc.causes = s.mc.causes ∧
    (s.startMove m).mc.holdPending = s.mc.holdPending ∧
    (s.startMove m).mc.record = s.mc.record ∧
    (s.startMove m).mc.deferredExpiry = s.mc.deferredExpiry ∧
    (s.startMove m).mc.notices = s.mc.notices ∧
    (s.startMove m).mc.linkDue = s.mc.linkDue := by simp [State.startMove]

@[simp] theorem State.report_frame (w : WaitingRecord) (s : State) :
    (s.report w).link = s.link ∧
    (s.report w).store = s.store ∧
    (s.report w).roll = s.roll ∧
    (s.report w).gate = s.gate ∧
    (s.report w).peer = s.peer ∧
    (s.report w).lead = s.lead ∧
    (s.report w).out = s.out ∧
    (s.report w).inp = s.inp ∧
    (s.report w).pending = s.pending ∧
    (s.report w).mc.state = s.mc.state ∧
    (s.report w).mc.queue = s.mc.queue ∧
    (s.report w).mc.causes = s.mc.causes ∧
    (s.report w).mc.holdPending = s.mc.holdPending ∧
    (s.report w).mc.deferredExpiry = s.mc.deferredExpiry ∧
    (s.report w).mc.notices = s.mc.notices ∧
    (s.report w).mc.kept = s.mc.kept ∧
    (s.report w).mc.descentCause = s.mc.descentCause ∧
    (s.report w).mc.linkDue = s.mc.linkDue := by
  unfold State.report
  try dsimp only
  repeat' split
  all_goals simp

@[simp] theorem State.withdraw_frame (m : Move) (o : RetireOutcome) (c : Option Cause) (s : State) :
    (s.withdraw m o c).link = s.link ∧
    (s.withdraw m o c).store = s.store ∧
    (s.withdraw m o c).roll = s.roll ∧
    (s.withdraw m o c).gate = s.gate ∧
    (s.withdraw m o c).peer = s.peer ∧
    (s.withdraw m o c).lead = s.lead ∧
    (s.withdraw m o c).out = s.out ∧
    (s.withdraw m o c).inp = s.inp ∧
    (s.withdraw m o c).pending = s.pending ∧
    (s.withdraw m o c).mc.state = s.mc.state ∧
    (s.withdraw m o c).mc.queue = s.mc.queue ∧
    (s.withdraw m o c).mc.causes = s.mc.causes ∧
    (s.withdraw m o c).mc.holdPending = s.mc.holdPending ∧
    (s.withdraw m o c).mc.record = s.mc.record ∧
    (s.withdraw m o c).mc.deferredExpiry = s.mc.deferredExpiry ∧
    (s.withdraw m o c).mc.notices = s.mc.notices ∧
    (s.withdraw m o c).mc.kept = s.mc.kept ∧
    (s.withdraw m o c).mc.descentCause = s.mc.descentCause := by
  unfold State.withdraw
  try dsimp only
  repeat' split
  all_goals simp

@[simp] theorem State.retire_frame (o : RetireOutcome) (c : Option Cause) (s : State) :
    (s.retire o c).link = s.link ∧
    (s.retire o c).store = s.store ∧
    (s.retire o c).peer = s.peer ∧
    (s.retire o c).lead = s.lead ∧
    (s.retire o c).out = s.out ∧
    (s.retire o c).inp = s.inp ∧
    (s.retire o c).pending = s.pending ∧
    (s.retire o c).mc.holdPending = s.mc.holdPending ∧
    (s.retire o c).mc.notices = s.mc.notices := by
  unfold State.retire
  try dsimp only
  repeat' split
  all_goals simp

@[simp] theorem State.replyFreed_frame (s : State) :
    (s.replyFreed).link = s.link ∧
    (s.replyFreed).store = s.store ∧
    (s.replyFreed).peer = s.peer ∧
    (s.replyFreed).lead = s.lead ∧
    (s.replyFreed).out = s.out ∧
    (s.replyFreed).inp = s.inp ∧
    (s.replyFreed).pending = s.pending ∧
    (s.replyFreed).mc.holdPending = s.mc.holdPending ∧
    (s.replyFreed).mc.notices = s.mc.notices := by
  unfold State.replyFreed
  try dsimp only
  repeat' split
  all_goals simp

@[simp] theorem State.stopLead_frame (s : State) :
    (s.stopLead).link = s.link ∧
    (s.stopLead).fq = s.fq ∧
    (s.stopLead).store = s.store ∧
    (s.stopLead).mc = s.mc ∧
    (s.stopLead).roll = s.roll ∧
    (s.stopLead).gate = s.gate ∧
    (s.stopLead).peer = s.peer ∧
    (s.stopLead).out = s.out ∧
    (s.stopLead).inp = s.inp ∧
    (s.stopLead).pending = s.pending := by simp [State.stopLead]

@[simp] theorem State.haltMove_frame (c : Cause) (s : State) :
    (s.haltMove c).link = s.link ∧
    (s.haltMove c).store = s.store ∧
    (s.haltMove c).peer = s.peer ∧
    (s.haltMove c).out = s.out ∧
    (s.haltMove c).inp = s.inp ∧
    (s.haltMove c).pending = s.pending ∧
    (s.haltMove c).mc.holdPending = s.mc.holdPending ∧
    (s.haltMove c).mc.notices = s.mc.notices := by
  unfold State.haltMove
  try dsimp only
  repeat' split
  all_goals simp

@[simp] theorem State.haltDescent_frame (c : Cause) (s : State) :
    (s.haltDescent c).link = s.link ∧
    (s.haltDescent c).store = s.store ∧
    (s.haltDescent c).peer = s.peer ∧
    (s.haltDescent c).out = s.out ∧
    (s.haltDescent c).inp = s.inp ∧
    (s.haltDescent c).pending = s.pending ∧
    (s.haltDescent c).mc.holdPending = s.mc.holdPending ∧
    (s.haltDescent c).mc.notices = s.mc.notices := by
  unfold State.haltDescent
  try dsimp only
  repeat' split
  all_goals simp

@[simp] theorem State.notify_frame (m : Move) (k : HaltKind) (c : Cause) (d : Bool) (s : State) :
    (s.notify m k c d).link = s.link ∧
    (s.notify m k c d).store = s.store ∧
    (s.notify m k c d).roll = s.roll ∧
    (s.notify m k c d).gate = s.gate ∧
    (s.notify m k c d).peer = s.peer ∧
    (s.notify m k c d).lead = s.lead ∧
    (s.notify m k c d).out = s.out ∧
    (s.notify m k c d).inp = s.inp ∧
    (s.notify m k c d).pending = s.pending ∧
    (s.notify m k c d).mc.state = s.mc.state ∧
    (s.notify m k c d).mc.queue = s.mc.queue ∧
    (s.notify m k c d).mc.causes = s.mc.causes ∧
    (s.notify m k c d).mc.holdPending = s.mc.holdPending ∧
    (s.notify m k c d).mc.record = s.mc.record ∧
    (s.notify m k c d).mc.deferredExpiry = s.mc.deferredExpiry ∧
    (s.notify m k c d).mc.kept = s.mc.kept ∧
    (s.notify m k c d).mc.descentCause = s.mc.descentCause ∧
    (s.notify m k c d).mc.linkDue = s.mc.linkDue := by
  unfold State.notify
  try dsimp only
  repeat' split
  all_goals simp

@[simp] theorem State.stopMove_frame (c : Cause) (d : Bool) (s : State) :
    (s.stopMove c d).link = s.link ∧
    (s.stopMove c d).store = s.store ∧
    (s.stopMove c d).peer = s.peer ∧
    (s.stopMove c d).out = s.out ∧
    (s.stopMove c d).inp = s.inp ∧
    (s.stopMove c d).pending = s.pending ∧
    (s.stopMove c d).mc.holdPending = s.mc.holdPending := by
  unfold State.stopMove
  try dsimp only
  repeat' split
  all_goals simp

@[simp] theorem State.rampMove_frame (c : Cause) (s : State) :
    (s.rampMove c).link = s.link ∧
    (s.rampMove c).store = s.store ∧
    (s.rampMove c).peer = s.peer ∧
    (s.rampMove c).out = s.out ∧
    (s.rampMove c).inp = s.inp ∧
    (s.rampMove c).pending = s.pending ∧
    (s.rampMove c).mc.holdPending = s.mc.holdPending := by
  unfold State.rampMove
  try dsimp only
  repeat' split
  all_goals simp

@[simp] theorem State.giveUp_frame (o : RetireOutcome) (c : Cause) (l : List Cause) (s : State) :
    (s.giveUp o c l).link = s.link ∧
    (s.giveUp o c l).store = s.store ∧
    (s.giveUp o c l).peer = s.peer ∧
    (s.giveUp o c l).lead = s.lead ∧
    (s.giveUp o c l).out = s.out ∧
    (s.giveUp o c l).inp = s.inp ∧
    (s.giveUp o c l).pending = s.pending ∧
    (s.giveUp o c l).mc.holdPending = s.mc.holdPending ∧
    (s.giveUp o c l).mc.notices = s.mc.notices := by simp [State.giveUp]

@[simp] theorem State.failAnnounced_frame (c : Cause) (s : State) :
    (s.failAnnounced c).link = s.link ∧
    (s.failAnnounced c).store = s.store ∧
    (s.failAnnounced c).peer = s.peer ∧
    (s.failAnnounced c).lead = s.lead ∧
    (s.failAnnounced c).out = s.out ∧
    (s.failAnnounced c).inp = s.inp ∧
    (s.failAnnounced c).pending = s.pending ∧
    (s.failAnnounced c).mc.holdPending = s.mc.holdPending ∧
    (s.failAnnounced c).mc.notices = s.mc.notices := by
  unfold State.failAnnounced
  try dsimp only
  repeat' split
  all_goals simp

@[simp] theorem State.linkCause_frame (s : State) :
    (s.linkCause).link = s.link ∧
    (s.linkCause).store = s.store ∧
    (s.linkCause).peer = s.peer ∧
    (s.linkCause).out = s.out ∧
    (s.linkCause).inp = s.inp ∧
    (s.linkCause).pending = s.pending ∧
    (s.linkCause).mc.holdPending = s.mc.holdPending := by
  unfold State.linkCause
  try dsimp only
  repeat' split
  all_goals simp

@[simp] theorem State.takeLink_frame (s : State) :
    (s.takeLink).link = s.link ∧
    (s.takeLink).store = s.store ∧
    (s.takeLink).peer = s.peer ∧
    (s.takeLink).out = s.out ∧
    (s.takeLink).inp = s.inp ∧
    (s.takeLink).pending = s.pending ∧
    (s.takeLink).mc.holdPending = s.mc.holdPending := by simp [State.takeLink]

@[simp] theorem State.giveLink_frame (s : State) :
    (s.giveLink).link = s.link ∧
    (s.giveLink).store = s.store ∧
    (s.giveLink).peer = s.peer ∧
    (s.giveLink).out = s.out ∧
    (s.giveLink).inp = s.inp ∧
    (s.giveLink).pending = s.pending ∧
    (s.giveLink).mc.holdPending = s.mc.holdPending := by
  unfold State.giveLink
  try dsimp only
  repeat' split
  all_goals simp

@[simp] theorem State.announce_frame (g : GroupNo) (m : Move) (s : State) :
    (s.announce g m).link = s.link ∧
    (s.announce g m).store = s.store ∧
    (s.announce g m).peer = s.peer ∧
    (s.announce g m).lead = s.lead ∧
    (s.announce g m).out = s.out ∧
    (s.announce g m).inp = s.inp ∧
    (s.announce g m).pending = s.pending ∧
    (s.announce g m).mc.queue = s.mc.queue ∧
    (s.announce g m).mc.causes = s.mc.causes ∧
    (s.announce g m).mc.holdPending = s.mc.holdPending ∧
    (s.announce g m).mc.record = s.mc.record ∧
    (s.announce g m).mc.deferredExpiry = s.mc.deferredExpiry ∧
    (s.announce g m).mc.notices = s.mc.notices ∧
    (s.announce g m).mc.kept = s.mc.kept ∧
    (s.announce g m).mc.descentCause = s.mc.descentCause := by
  unfold State.announce
  try dsimp only
  repeat' split
  all_goals simp

@[simp] theorem State.completeSeek_frame (s : State) :
    (s.completeSeek).link = s.link ∧
    (s.completeSeek).store = s.store ∧
    (s.completeSeek).peer = s.peer ∧
    (s.completeSeek).inp = s.inp ∧
    (s.completeSeek).pending = s.pending ∧
    (s.completeSeek).mc.holdPending = s.mc.holdPending ∧
    (s.completeSeek).mc.notices = s.mc.notices := by simp [State.completeSeek]

@[simp] theorem State.startSolo_frame (m : Move) (s : State) :
    (s.startSolo m).link = s.link ∧
    (s.startSolo m).store = s.store ∧
    (s.startSolo m).peer = s.peer ∧
    (s.startSolo m).inp = s.inp ∧
    (s.startSolo m).pending = s.pending ∧
    (s.startSolo m).mc.holdPending = s.mc.holdPending ∧
    (s.startSolo m).mc.notices = s.mc.notices := by
  unfold State.startSolo
  try dsimp only
  repeat' split
  all_goals simp

@[simp] theorem State.armHead_frame (m : Move) (s : State) :
    (s.armHead m).link = s.link ∧
    (s.armHead m).store = s.store ∧
    (s.armHead m).peer = s.peer ∧
    (s.armHead m).inp = s.inp ∧
    (s.armHead m).pending = s.pending ∧
    (s.armHead m).mc.holdPending = s.mc.holdPending ∧
    (s.armHead m).mc.notices = s.mc.notices := by
  unfold State.armHead
  try dsimp only
  repeat' split
  all_goals simp

@[simp] theorem State.settle_frame (n : Nat) (s : State) :
    (s.settle n).link = s.link ∧
    (s.settle n).store = s.store ∧
    (s.settle n).peer = s.peer ∧
    (s.settle n).inp = s.inp ∧
    (s.settle n).pending = s.pending ∧
    (s.settle n).mc.holdPending = s.mc.holdPending := by
  induction n generalizing s with
  | zero => simp [State.settle]
  | succ n ih =>
    unfold State.settle
    dsimp only
    repeat' split
    all_goals simp [ih]

@[simp] theorem State.finish_frame (s : State) :
    (s.finish).store = s.store ∧
    (s.finish).peer = s.peer ∧
    (s.finish).inp = s.inp ∧
    (s.finish).pending = s.pending ∧
    (s.finish).mc.holdPending = s.mc.holdPending := by simp [State.finish]

@[simp] theorem State.updGroup_frame (g : GroupNo) (f : GroupEntry → GroupEntry) (s : State) :
    (s.updGroup g f).link = s.link ∧
    (s.updGroup g f).fq = s.fq ∧
    (s.updGroup g f).store = s.store ∧
    (s.updGroup g f).mc = s.mc ∧
    (s.updGroup g f).gate = s.gate ∧
    (s.updGroup g f).peer = s.peer ∧
    (s.updGroup g f).lead = s.lead ∧
    (s.updGroup g f).out = s.out ∧
    (s.updGroup g f).inp = s.inp ∧
    (s.updGroup g f).pending = s.pending := by simp [State.updGroup]

@[simp] theorem OutFrame.isToldByNotice_withdraw (g g' : GroupNo) (t t' : Tag) (c : Cause) :
    (OutFrame.withdraw g' t' c).isToldByNotice g t = (decide (g' = g) && decide (t' = t) && causeInNotice c) := rfl

/-- The frame that a notice replaces is a WITHDRAW of that group and tag, of a cause that the notice can carry (R35, R107). -/
theorem OutFrame.isToldByNotice_iff {g : GroupNo} {t : Tag} {f : OutFrame} :
    f.isToldByNotice g t = true ↔ ∃ c, f = .withdraw g t c ∧ causeInNotice c = true := by
  cases f <;> simp [OutFrame.isToldByNotice, and_assoc]

/-- The cause that a stale start takes from a queued WITHDRAW is that of one this node has queued, and one that a HALT notice
can carry (R35, R107). -/
theorem FrameQueue.withdrawCause_some {q : FrameQueue} {g : GroupNo} {t : Tag} {c : Cause}
    (h : q.withdrawCause g t = some c) :
    causeInNotice c = true ∧ ∃ e ∈ q.entries, e.status = .queued ∧ e.frame = .withdraw g t c := by
  unfold FrameQueue.withdrawCause at h
  split at h
  · rename_i e he
    have hm := List.mem_of_find?_eq_some he
    have hp := List.find?_some he
    simp only [Bool.and_eq_true, decide_eq_true_eq] at hp
    obtain ⟨k, hk, hc⟩ := OutFrame.isToldByNotice_iff.mp hp.2
    rw [hk] at h
    cases h
    exact ⟨hc, e, hm, hp.1, hk⟩
  · cases h

@[simp] theorem State.staleStart_frame (g : GroupNo) (t : Tag) (s : State) :
    (s.staleStart g t).link = s.link ∧
    (s.staleStart g t).store = s.store ∧
    (s.staleStart g t).roll = s.roll ∧
    (s.staleStart g t).gate = s.gate ∧
    (s.staleStart g t).peer = s.peer ∧
    (s.staleStart g t).lead = s.lead ∧
    (s.staleStart g t).out = s.out ∧
    (s.staleStart g t).inp = s.inp ∧
    (s.staleStart g t).pending = s.pending ∧
    (s.staleStart g t).mc.state = s.mc.state ∧
    (s.staleStart g t).mc.queue = s.mc.queue ∧
    (s.staleStart g t).mc.causes = s.mc.causes ∧
    (s.staleStart g t).mc.holdPending = s.mc.holdPending ∧
    (s.staleStart g t).mc.record = s.mc.record ∧
    (s.staleStart g t).mc.deferredExpiry = s.mc.deferredExpiry ∧
    (s.staleStart g t).mc.kept = s.mc.kept ∧
    (s.staleStart g t).mc.descentCause = s.mc.descentCause ∧
    (s.staleStart g t).mc.linkDue = s.mc.linkDue := by
  unfold State.staleStart
  try dsimp only
  repeat' split
  all_goals simp

@[simp] theorem State.startEvent_frame (g : GroupNo) (t : Tag) (s : State) :
    (s.startEvent g t).link = s.link ∧
    (s.startEvent g t).store = s.store ∧
    (s.startEvent g t).peer = s.peer ∧
    (s.startEvent g t).inp = s.inp ∧
    (s.startEvent g t).pending = s.pending ∧
    (s.startEvent g t).mc.queue = s.mc.queue ∧
    (s.startEvent g t).mc.causes = s.mc.causes ∧
    (s.startEvent g t).mc.holdPending = s.mc.holdPending ∧
    (s.startEvent g t).mc.record = s.mc.record ∧
    (s.startEvent g t).mc.deferredExpiry = s.mc.deferredExpiry ∧
    (s.startEvent g t).mc.linkDue = s.mc.linkDue := by
  unfold State.startEvent
  try dsimp only
  repeat' split
  all_goals simp

@[simp] theorem State.readyTake_frame (src : Addr) (g : GroupNo) (t : Tag) (s : State) :
    (s.readyTake src g t).link = s.link ∧
    (s.readyTake src g t).store = s.store ∧
    (s.readyTake src g t).peer = s.peer ∧
    (s.readyTake src g t).inp = s.inp ∧
    (s.readyTake src g t).pending = s.pending ∧
    (s.readyTake src g t).mc.holdPending = s.mc.holdPending := by
  unfold State.readyTake
  try dsimp only
  repeat' split
  all_goals simp

@[simp] theorem State.withdrawn_frame (g : GroupNo) (t : Tag) (s : State) :
    (s.withdrawn g t).link = s.link ∧
    (s.withdrawn g t).store = s.store ∧
    (s.withdrawn g t).peer = s.peer ∧
    (s.withdrawn g t).lead = s.lead ∧
    (s.withdrawn g t).out = s.out ∧
    (s.withdrawn g t).inp = s.inp ∧
    (s.withdrawn g t).pending = s.pending ∧
    (s.withdrawn g t).mc.holdPending = s.mc.holdPending ∧
    (s.withdrawn g t).mc.notices = s.mc.notices := by
  unfold State.withdrawn
  try dsimp only
  repeat' split
  all_goals simp

@[simp] theorem State.withdrawTake_frame (src : Addr) (g : GroupNo) (t : Tag) (s : State) :
    (s.withdrawTake src g t).link = s.link ∧
    (s.withdrawTake src g t).store = s.store ∧
    (s.withdrawTake src g t).peer = s.peer ∧
    (s.withdrawTake src g t).lead = s.lead ∧
    (s.withdrawTake src g t).out = s.out ∧
    (s.withdrawTake src g t).inp = s.inp ∧
    (s.withdrawTake src g t).pending = s.pending ∧
    (s.withdrawTake src g t).mc.holdPending = s.mc.holdPending ∧
    (s.withdrawTake src g t).mc.notices = s.mc.notices := by
  unfold State.withdrawTake
  try dsimp only
  repeat' split
  all_goals simp

@[simp] theorem State.setHoldPending_frame (c : Cause) (s : State) :
    (s.setHoldPending c).link = s.link ∧
    (s.setHoldPending c).fq = s.fq ∧
    (s.setHoldPending c).store = s.store ∧
    (s.setHoldPending c).roll = s.roll ∧
    (s.setHoldPending c).gate = s.gate ∧
    (s.setHoldPending c).peer = s.peer ∧
    (s.setHoldPending c).lead = s.lead ∧
    (s.setHoldPending c).out = s.out ∧
    (s.setHoldPending c).inp = s.inp ∧
    (s.setHoldPending c).pending = s.pending ∧
    (s.setHoldPending c).mc.state = s.mc.state ∧
    (s.setHoldPending c).mc.queue = s.mc.queue ∧
    (s.setHoldPending c).mc.record = s.mc.record ∧
    (s.setHoldPending c).mc.deferredExpiry = s.mc.deferredExpiry ∧
    (s.setHoldPending c).mc.notices = s.mc.notices ∧
    (s.setHoldPending c).mc.kept = s.mc.kept ∧
    (s.setHoldPending c).mc.descentCause = s.mc.descentCause ∧
    (s.setHoldPending c).mc.linkDue = s.mc.linkDue := by simp [State.setHoldPending]

@[simp] theorem State.haltAct_frame (g : GroupNo) (k : HaltKind) (c : Cause) (s : State) :
    (s.haltAct g k c).link = s.link ∧
    (s.haltAct g k c).store = s.store ∧
    (s.haltAct g k c).peer = s.peer ∧
    (s.haltAct g k c).out = s.out ∧
    (s.haltAct g k c).inp = s.inp ∧
    (s.haltAct g k c).pending = s.pending ∧
    (s.haltAct g k c).mc.notices = s.mc.notices := by
  unfold State.haltAct
  try dsimp only
  repeat' split
  all_goals simp

@[simp] theorem State.haltTake_frame (src : Addr) (g : GroupNo) (k : HaltKind) (s : State) :
    (s.haltTake src g k).link = s.link ∧
    (s.haltTake src g k).store = s.store ∧
    (s.haltTake src g k).peer = s.peer ∧
    (s.haltTake src g k).out = s.out ∧
    (s.haltTake src g k).inp = s.inp ∧
    (s.haltTake src g k).pending = s.pending := by
  unfold State.haltTake
  try dsimp only
  repeat' split
  all_goals simp

@[simp] theorem State.updPeerEntry_frame (a : Addr) (f : PeerEntry → PeerEntry) (s : State) :
    (s.updPeerEntry a f).link = s.link ∧
    (s.updPeerEntry a f).fq = s.fq ∧
    (s.updPeerEntry a f).store = s.store ∧
    (s.updPeerEntry a f).mc = s.mc ∧
    (s.updPeerEntry a f).roll = s.roll ∧
    (s.updPeerEntry a f).gate = s.gate ∧
    (s.updPeerEntry a f).lead = s.lead ∧
    (s.updPeerEntry a f).out = s.out ∧
    (s.updPeerEntry a f).inp = s.inp ∧
    (s.updPeerEntry a f).pending = s.pending := by simp [State.updPeerEntry]

@[simp] theorem State.breakRunning_frame (s : State) :
    (s.breakRunning).link = s.link ∧
    (s.breakRunning).store = s.store ∧
    (s.breakRunning).peer = s.peer ∧
    (s.breakRunning).out = s.out ∧
    (s.breakRunning).inp = s.inp ∧
    (s.breakRunning).pending = s.pending ∧
    (s.breakRunning).mc.holdPending = s.mc.holdPending := by simp [State.breakRunning]

@[simp] theorem State.groupBroken_frame (g : GroupNo) (s : State) :
    (s.groupBroken g).link = s.link ∧
    (s.groupBroken g).store = s.store ∧
    (s.groupBroken g).peer = s.peer ∧
    (s.groupBroken g).out = s.out ∧
    (s.groupBroken g).inp = s.inp ∧
    (s.groupBroken g).pending = s.pending ∧
    (s.groupBroken g).mc.holdPending = s.mc.holdPending := by
  unfold State.groupBroken
  try dsimp only
  repeat' split
  all_goals simp

@[simp] theorem State.presenceInGroup_frame (a : Addr) (lost : Bool) (g : GroupNo) (s : State) :
    (s.presenceInGroup a lost g).link = s.link ∧
    (s.presenceInGroup a lost g).store = s.store ∧
    (s.presenceInGroup a lost g).peer = s.peer ∧
    (s.presenceInGroup a lost g).out = s.out ∧
    (s.presenceInGroup a lost g).inp = s.inp ∧
    (s.presenceInGroup a lost g).pending = s.pending ∧
    (s.presenceInGroup a lost g).mc.holdPending = s.mc.holdPending := by
  unfold State.presenceInGroup
  try dsimp only
  repeat' split
  all_goals simp

@[simp] theorem State.presenceInGroups_frame (a : Addr) (lost : Bool) (gs : List GroupNo) (s : State) :
    (gs.foldl (State.presenceInGroup a lost) s).link = s.link ∧ (gs.foldl (State.presenceInGroup a lost) s).store = s.store ∧
    (gs.foldl (State.presenceInGroup a lost) s).peer = s.peer ∧ (gs.foldl (State.presenceInGroup a lost) s).out = s.out ∧
    (gs.foldl (State.presenceInGroup a lost) s).inp = s.inp ∧
    (gs.foldl (State.presenceInGroup a lost) s).pending = s.pending ∧
    (gs.foldl (State.presenceInGroup a lost) s).mc.holdPending = s.mc.holdPending := by
  induction gs generalizing s with
  | nil => simp
  | cons g gs ih => simp [ih]

@[simp] theorem State.setPresence_frame (a : Addr) (p : Presence) (s : State) :
    (s.setPresence a p).link = s.link ∧
    (s.setPresence a p).store = s.store ∧
    (s.setPresence a p).out = s.out ∧
    (s.setPresence a p).inp = s.inp ∧
    (s.setPresence a p).pending = s.pending ∧
    (s.setPresence a p).mc.holdPending = s.mc.holdPending := by
  unfold State.setPresence
  try dsimp only
  repeat' split
  all_goals simp

@[simp] theorem State.hear_frame (src : Addr) (h : Heard) (s : State) :
    (s.hear src h).link = s.link ∧
    (s.hear src h).store = s.store ∧
    (s.hear src h).out = s.out ∧
    (s.hear src h).inp = s.inp ∧
    (s.hear src h).pending = s.pending ∧
    (s.hear src h).mc.holdPending = s.mc.holdPending := by
  unfold State.hear
  try dsimp only
  repeat' split
  all_goals simp

@[simp] theorem State.returned_frame (f : OutFrame) (s : State) :
    (s.returned f).link = s.link ∧
    (s.returned f).store = s.store ∧
    (s.returned f).peer = s.peer ∧
    (s.returned f).lead = s.lead ∧
    (s.returned f).out = s.out ∧
    (s.returned f).inp = s.inp ∧
    (s.returned f).pending = s.pending ∧
    (s.returned f).mc.holdPending = s.mc.holdPending := by
  unfold State.returned
  try dsimp only
  repeat' split
  all_goals simp

@[simp] theorem State.attemptLost_frame (s : State) :
    (s.attemptLost).store = s.store ∧
    (s.attemptLost).peer = s.peer ∧
    (s.attemptLost).inp = s.inp ∧
    (s.attemptLost).pending = s.pending ∧
    (s.attemptLost).mc.holdPending = s.mc.holdPending := by
  unfold State.attemptLost
  try dsimp only
  repeat' split
  all_goals simp

@[simp] theorem State.discardTold_frame (f : OutFrame) (s : State) :
    (s.discardTold f).link = s.link ∧
    (s.discardTold f).store = s.store ∧
    (s.discardTold f).peer = s.peer ∧
    (s.discardTold f).lead = s.lead ∧
    (s.discardTold f).out = s.out ∧
    (s.discardTold f).inp = s.inp ∧
    (s.discardTold f).pending = s.pending ∧
    (s.discardTold f).mc.holdPending = s.mc.holdPending := by
  unfold State.discardTold
  try dsimp only
  repeat' split
  all_goals simp

@[simp] theorem State.discardLink_frame (f : OutFrame) (s : State) :
    (s.discardLink f).link = s.link ∧
    (s.discardLink f).store = s.store ∧
    (s.discardLink f).peer = s.peer ∧
    (s.discardLink f).out = s.out ∧
    (s.discardLink f).inp = s.inp ∧
    (s.discardLink f).pending = s.pending ∧
    (s.discardLink f).mc.holdPending = s.mc.holdPending := by
  unfold State.discardLink
  try dsimp only
  repeat' split
  all_goals simp

@[simp] theorem State.discard_frame (f : OutFrame) (s : State) :
    (s.discard f).store = s.store ∧
    (s.discard f).peer = s.peer ∧
    (s.discard f).out = s.out ∧
    (s.discard f).inp = s.inp ∧
    (s.discard f).pending = s.pending ∧
    (s.discard f).mc.holdPending = s.mc.holdPending := by simp [State.discard]

@[simp] theorem State.attemptRejected_frame (s : State) :
    (s.attemptRejected).store = s.store ∧
    (s.attemptRejected).peer = s.peer ∧
    (s.attemptRejected).out = s.out ∧
    (s.attemptRejected).inp = s.inp ∧
    (s.attemptRejected).pending = s.pending ∧
    (s.attemptRejected).mc.holdPending = s.mc.holdPending := by
  unfold State.attemptRejected
  try dsimp only
  repeat' split
  all_goals simp

@[simp] theorem State.attemptBusy_frame (s : State) :
    (s.attemptBusy).store = s.store ∧
    (s.attemptBusy).peer = s.peer ∧
    (s.attemptBusy).out = s.out ∧
    (s.attemptBusy).inp = s.inp ∧
    (s.attemptBusy).pending = s.pending ∧
    (s.attemptBusy).mc.holdPending = s.mc.holdPending := by
  unfold State.attemptBusy
  try dsimp only
  repeat' split
  all_goals simp

@[simp] theorem State.actOnKept_frame (c : Cause) (s : State) :
    (s.actOnKept c).link = s.link ∧
    (s.actOnKept c).store = s.store ∧
    (s.actOnKept c).peer = s.peer ∧
    (s.actOnKept c).out = s.out ∧
    (s.actOnKept c).inp = s.inp ∧
    (s.actOnKept c).pending = s.pending ∧
    (s.actOnKept c).mc.holdPending = s.mc.holdPending := by
  unfold State.actOnKept
  try dsimp only
  repeat' split
  all_goals simp

@[simp] theorem State.decideKept_frame (k : List Cause) (s : State) :
    (s.decideKept k).link = s.link ∧
    (s.decideKept k).store = s.store ∧
    (s.decideKept k).peer = s.peer ∧
    (s.decideKept k).out = s.out ∧
    (s.decideKept k).inp = s.inp ∧
    (s.decideKept k).pending = s.pending ∧
    (s.decideKept k).mc.holdPending = s.mc.holdPending := by
  unfold State.decideKept
  try dsimp only
  repeat' split
  all_goals simp

@[simp] theorem State.ownDispatch_frame (f : OutFrame) (s : State) :
    (s.ownDispatch f).link = s.link ∧
    (s.ownDispatch f).store = s.store ∧
    (s.ownDispatch f).peer = s.peer ∧
    (s.ownDispatch f).inp = s.inp ∧
    (s.ownDispatch f).pending = s.pending ∧
    (s.ownDispatch f).mc.holdPending = s.mc.holdPending := by
  cases f <;> simp [State.ownDispatch]

@[simp] theorem State.restartBeacon_frame (s : State) :
    (s.restartBeacon).link = s.link ∧
    (s.restartBeacon).fq = s.fq ∧
    (s.restartBeacon).store = s.store ∧
    (s.restartBeacon).mc = s.mc ∧
    (s.restartBeacon).roll = s.roll ∧
    (s.restartBeacon).gate = s.gate ∧
    (s.restartBeacon).lead = s.lead ∧
    (s.restartBeacon).out = s.out ∧
    (s.restartBeacon).inp = s.inp ∧
    (s.restartBeacon).pending = s.pending := by simp [State.restartBeacon]

@[simp] theorem State.reserve_frame (b : Bool) (s : State) :
    (s.reserve b).link = s.link ∧
    (s.reserve b).store = s.store ∧
    (s.reserve b).mc = s.mc ∧
    (s.reserve b).roll = s.roll ∧
    (s.reserve b).gate = s.gate ∧
    (s.reserve b).peer = s.peer ∧
    (s.reserve b).lead = s.lead ∧
    (s.reserve b).out = s.out ∧
    (s.reserve b).inp = s.inp ∧
    (s.reserve b).pending = s.pending := by simp [State.reserve]

@[simp] theorem State.unreserved_frame (s : State) :
    (s.unreserved).store = s.store ∧
    (s.unreserved).peer = s.peer ∧
    (s.unreserved).inp = s.inp ∧
    (s.unreserved).pending = s.pending ∧
    (s.unreserved).mc.holdPending = s.mc.holdPending := by
  unfold State.unreserved
  split <;> simp

@[simp] theorem State.ownTaken_frame (s : State) :
    (s.ownTaken).store = s.store ∧
    (s.ownTaken).inp = s.inp ∧
    (s.ownTaken).pending = s.pending ∧
    (s.ownTaken).mc.holdPending = s.mc.holdPending := by
  unfold State.ownTaken
  try dsimp only
  repeat' split
  all_goals simp

@[simp] theorem State.released_frame (s : State) :
    (s.released).store = s.store ∧
    (s.released).peer = s.peer ∧
    (s.released).inp = s.inp ∧
    (s.released).pending = s.pending ∧
    (s.released).mc.holdPending = s.mc.holdPending := by
  unfold State.released
  split <;> simp

@[simp] theorem State.slotRejects_frame (own : Bool) (m : SlotMarks) (s : State) :
    (s.slotRejects own m).store = s.store ∧
    (s.slotRejects own m).peer = s.peer ∧
    (s.slotRejects own m).inp = s.inp ∧
    (s.slotRejects own m).pending = s.pending ∧
    (s.slotRejects own m).mc.holdPending = s.mc.holdPending := by
  unfold State.slotRejects
  split <;> simp

@[simp] theorem State.slotPassed_frame (b : Bool) (s : State) :
    (s.slotPassed b).store = s.store ∧
    (s.slotPassed b).mc = s.mc ∧
    (s.slotPassed b).roll = s.roll ∧
    (s.slotPassed b).gate = s.gate ∧
    (s.slotPassed b).peer = s.peer ∧
    (s.slotPassed b).lead = s.lead ∧
    (s.slotPassed b).out = s.out ∧
    (s.slotPassed b).inp = s.inp ∧
    (s.slotPassed b).pending = s.pending := by
  unfold State.slotPassed
  dsimp only
  repeat' split
  all_goals simp

@[simp] theorem State.clash_frame (s : State) :
    (s.clash).store = s.store ∧
    (s.clash).inp = s.inp ∧
    (s.clash).pending = s.pending ∧
    (s.clash).mc.holdPending = s.mc.holdPending := by
  unfold State.clash
  try dsimp only
  repeat' split
  all_goals simp

@[simp] theorem State.fill_frame (f : OutFrame) (s : State) :
    (s.fill f).link = s.link ∧
    (s.fill f).store = s.store ∧
    (s.fill f).mc = s.mc ∧
    (s.fill f).roll = s.roll ∧
    (s.fill f).gate = s.gate ∧
    (s.fill f).peer = s.peer ∧
    (s.fill f).lead = s.lead ∧
    (s.fill f).out = s.out ∧
    (s.fill f).inp = s.inp ∧
    (s.fill f).pending = s.pending := by simp [State.fill]

end Sys2Proof.Machine
end

