-- ==== Sys2Proof/Laws/Requests.lean ====
section
/-! SUPPORT. What a request comes to on a node that takes it: the state its owning block sees, and the state after a refusal
and after an acknowledgment. -/

namespace Sys2Proof.Machine

/-- The state a request's owning block sees: the frame was heard and one REPLY entry is reserved (R156). -/
def State.opened (s : State) (src : Addr) : State := { s.afterFrame src with fq := { s.fq with reserved := true } }

/-- No attempt in hand can be lost. -/
theorem State.attemptLost_of_not_sending {s : State} (h : s.fq.sending = none) : s.attemptLost = s := by
  simp [State.attemptLost, h]

/-- Nothing is offered on a bus that is not idle (R137). -/
theorem State.offer_of_not_idle {s : State} (h : s.link.idleCount ≠ 12) : s.offer = s := by
  simp [State.offer, Config.idleBits, h]

/-- A frame that shows only that its sender is alive restarts the sender's silence timer and changes nothing else (R109). -/
theorem State.hear_alive (s : State) (src : Addr) :
    s.hear src .alive = { s with peer := { s.peer with peers := s.peer.peers.map fun e =>
      if e.addr = src then { e with timer := some s.timing.loss } else e } } := rfl

/-- All that an offer can do: nothing, or begin the oldest entry of the lowest class on an idle bus, which puts a frame in
progress (R137, R152). -/
theorem State.offer_cases (s : State) :
    (s.offer = s ∧
      (s.link.state = .active → s.link.idleCount = 12 → s.fq.sending = none → s.fq.lowestClass = none)) ∨
    ∃ k, s.link.state = .active ∧ s.link.idleCount = 12 ∧ s.fq.sending = none ∧ s.fq.lowestClass = some k ∧
      s.offer = { s with
        fq := { s.fq with entries := beginOldest k s.mc.state s.mc.queue.length s.fq.entries }
        link := { s.link with idleCount := 0, inFrame := true, marks := SlotMarks.none } } := by
  unfold State.offer
  split
  · rename_i h
    cases hk : s.fq.lowestClass with
    | none => exact .inl ⟨rfl, fun _ _ _ => rfl⟩
    | some k => exact .inr ⟨k, h.1, h.2.1, h.2.2, rfl, rfl⟩
  · rename_i h
    exact .inl ⟨rfl, fun h1 h2 h3 => absurd ⟨h1, h2, h3⟩ h⟩

@[simp] theorem State.afterSlot_link (m : SlotMarks) (s : State) :
    (s.afterSlot m).link = { s.link with idleCount := 0, inFrame := false, marks := m } := rfl

/-- The bus does not become idle while a frame is in progress (R136). -/
theorem State.idle_of_inFrame {s : State} (h : s.link.inFrame = true) : s.idle = s := by simp [State.idle, h]

/-- A dominant bit within a frame is none outside a frame (R136). -/
theorem State.dominantBit_of_inFrame {s : State} (h : s.link.inFrame = true) : s.dominantBit = s := by
  simp [State.dominantBit, h]

/-- A frame of another party that shows only that its sender is alive, taken with no attempt of this node on the bus. -/
theorem State.afterSlot_hear_alive (s : State) (src : Addr) :
    (s.afterSlot SlotMarks.none).hear src .alive = s.afterFrame src := rfl

/-- Nothing is released where nothing is reserved (R156). -/
theorem State.unreserved_of_none {s : State} (h : s.fq.reserved = false) : s.unreserved = s := by
  simp [State.unreserved, h]

/-- A slot that rejects another party's frame, with nothing reserved for it, leaves only this node's marks (R142). -/
theorem State.slotRejects_of_none {s : State} (m : SlotMarks) (h : s.fq.reserved = false) :
    s.slotRejects false m = s.afterSlot m := by
  simp [State.slotRejects, State.released, State.afterSlot, State.updLink, h]

/-- Nothing is released where nothing is reserved (R156). -/
theorem State.released_of_none {s : State} (h : s.fq.reserved = false) : s.released = s := by simp [State.released, h]

/-- An event outside a slot finds the state as it is. -/
@[simp] theorem State.slotPassed_false (s : State) : s.slotPassed false = s := rfl

/-- An event within the slot of a frame that asks this node for a reply and found room finds an entry reserved for the reply
(R156). -/
theorem State.slotPassed_of_room {s : State} (h1 : s.link.state ≠ .offline)
    (h3 : 2 ≤ s.fq.free ∨ s.fq.reserved = true) :
    s.slotPassed true = { s with link := { s.link with idleCount := 0, inFrame := true }
                                 fq := { s.fq with reserved := true } } := by
  have hr : s.hasRoom = true := by
    rcases h3 with h3 | h3 <;> simp [State.hasRoom, h3]
  simp [State.slotPassed, h1, hr]
  rfl

/-- The taking of another party's frame, with no attempt of this node on the bus (R142). -/
theorem State.takeFrom_of_hears {s : State} {src : Addr} (h : s.hears src) (own : OutFrame → Bool) (act : State → State) :
    s.takeFrom src own act = act (s.afterSlot SlotMarks.none) := by
  obtain ⟨h1, h2, h3, h4⟩ := h
  simp [State.takeFrom, State.takeHeld, State.released_of_none h4, h1, h2, State.attemptLost_of_not_sending h3]

/-- A request that finds room reaches its owning block, and its reply is queued before what follows (R156, R157). -/
theorem State.request_of_takes {s : State} {src : Addr} (h : s.takesRequest src) (num : Nat) (k : RequestKind)
    (act : State → State × Reply) (after : State → State) :
    s.request src num k act after =
      after ((act (s.opened src)).1.fill ((act (s.opened src)).2.frame src num k.code)) := by
  obtain ⟨h1, h2, h3, h4⟩ := h
  have hr : s.hasRoom = true := by
    rcases h4 with h4 | h4 <;> simp [State.hasRoom, h4]
  simp only [State.request, h1, h2, if_false, State.attemptLost_of_not_sending h3, hr]
  rfl

/-- The reply to a request that changed nothing (R157). -/
theorem State.opened_fill {s : State} {src : Addr} (f : OutFrame) : (s.opened src).fill f = s.answered src f := rfl

/-- After a request is answered the bus is not idle, so nothing is offered. -/
theorem State.answered_idleCount (s : State) (src : Addr) (f : OutFrame) : (s.answered src f).link.idleCount = 0 := rfl

/-- A refused request (R157). -/
theorem State.request_refused {s : State} {src : Addr} (h : s.takesRequest src) (num : Nat) (k : RequestKind)
    (act : State → State × Reply) {r : NakReason} (ha : act (s.opened src) = (s.opened src).refuse r) :
    s.request src num k act State.offer = s.refused src num k r := by
  rw [State.request_of_takes h, ha]
  exact State.offer_of_not_idle (by simp [State.refuse, State.opened_fill, State.answered_idleCount])

/-- The fields of the state a request's owning block sees. -/
@[simp] theorem State.opened_fields (s : State) (src : Addr) :
    (s.opened src).store = s.store ∧ (s.opened src).mc = s.mc ∧ (s.opened src).roll = s.roll ∧
    (s.opened src).gate = s.gate ∧ (s.opened src).lead = s.lead ∧ (s.opened src).out = s.out ∧
    (s.opened src).inp = s.inp ∧ (s.opened src).pending = s.pending ∧ (s.opened src).link.state = s.link.state ∧
    (s.opened src).link.addr = s.link.addr ∧ (s.opened src).link.idleCount = 0 ∧
    (s.opened src).fq.entries = s.fq.entries := by
  simp [State.opened, State.afterFrame]

end Sys2Proof.Machine
end

