-- ==== Sys2Proof/Laws/Finish.lean ====
section
/-! SUPPORT. What follows an event at its end, in a state where nothing of it is due: the LINK cause, the arming of a
ready head and the filling of the URGENT share leave a settled state as it is, and only the offer of a frame remains. -/

namespace Sys2Proof.Machine

theorem State.giveLink_of_not_due {s : State} (h : s.mc.linkDue = false) : s.giveLink = s := by
  simp [State.giveLink, h]

theorem State.giveLink_of_due {s : State} (h : s.mc.linkDue = true) : s.giveLink = s.takeLink := by
  simp [State.giveLink, h]

/-- Nothing is armed in a state other than PENDING. -/
theorem State.settle_of_not_pending {s : State} (n : Nat) (hl : s.mc.linkDue = false) (hp : s.mc.state ≠ .pending) :
    s.settle n = s := by
  cases n with
  | zero => simp [State.settle, State.giveLink_of_not_due hl]
  | succ n =>
    simp only [State.settle, State.giveLink_of_not_due hl]
    split
    · exact absurd ‹_› hp
    · rfl

/-- Nothing is armed while the head is not ready. -/
theorem State.settle_of_not_ready {s : State} (n : Nat) (hl : s.mc.linkDue = false)
    (hr : s.mc.state = .pending → ∀ m ∈ s.mc.queue.head?, s.readyFor m = false) : s.settle n = s := by
  cases n with
  | zero => simp [State.settle, State.giveLink_of_not_due hl]
  | succ n =>
    simp only [State.settle, State.giveLink_of_not_due hl]
    split
    · rename_i m q hp hq
      simp [hr hp m (by simp [hq])]
    · rfl

/-- The head of a PENDING queue that is ready is checked, and what follows is settled again (R11, R13). -/
theorem State.settle_of_ready {s : State} {m : Move} {rest : List Move} (n : Nat) (hl : s.mc.linkDue = false)
    (hp : s.mc.state = .pending) (hq : s.mc.queue = m :: rest) (hr : s.readyFor m = true) :
    s.settle (n + 1) = (s.armHead m).settle n := by
  simp [State.settle, State.giveLink_of_not_due hl, hp, hq, hr]

/-- No HALT notice moves while none waits for an entry or the URGENT share is full (R94). -/
theorem State.fillUrgent_of_none {s : State}
    (h : s.fq.count .urgent < share .urgent → ∀ n ∈ s.mc.notices, n.status ≠ .waiting) : s.fillUrgent = s := by
  unfold State.fillUrgent
  split
  · have hn : s.mc.notices.find? (fun n => decide (n.status = .waiting)) = none := by
      simp only [List.find?_eq_none, decide_eq_true_eq]
      exact h ‹_›
    simp [hn]
  · rfl

theorem State.finish_of_settled {s : State} (h : s.settled) : s.finish = s.offer := by
  simp [State.finish, State.settle_of_not_ready _ h.1 h.2.1, State.fillUrgent_of_none h.2.2]

/-- A settled state whose bus is not idle is left as it is. -/
theorem State.finish_of_settled_of_not_idle {s : State} (h : s.settled) (hi : s.link.idleCount ≠ 12) : s.finish = s := by
  rw [State.finish_of_settled h, State.offer_of_not_idle hi]

end Sys2Proof.Machine
end

