-- ==== Sys2Proof/Laws/PerInstr.lean ====
section
/-! SUPPORT. Statements made of every command as syntax, one lemma for each. -/

namespace Sys2Proof.Laws.Senders

/-- The party that sent the frame a command stands for, where the command names it as an operand. -/
def sender : Instr → Option Addr
  | .configGroup src _ _ _ => some src
  | .configProfile src _ _ _ _ _ _ => some src
  | .configProfileTablePart src _ _ _ _ _ => some src
  | .configLimits src _ _ _ => some src
  | .configTiming src _ _ _ _ => some src
  | .configInputs src _ _ _ _ _ _ _ => some src
  | .commit src _ => some src
  | .load src _ _ => some src
  | .flush src _ => some src
  | .stop src _ _ => some src
  | .resume src _ => some src
  | .setpos src _ _ => some src
  | .scale src _ _ => some src
  | .queryNode src _ => some src
  | .queryGroup src _ _ _ => some src
  | .queryQueue src _ _ => some src
  | .restart src _ => some src
  | .readyTaken src _ _ => some src
  | .withdrawTaken src _ _ _ => some src
  | .haltTaken src _ _ _ _ => some src
  | .markTaken src _ _ _ => some src
  | .groupScaleTaken src _ _ => some src
  | .beaconTaken src _ _ => some src
  | .replyFrameTaken src => some src
  | .malformedFrameTaken _ => none
  | .frameRejectedInSlot _ => none
  | .ownFrameTaken => none
  | .lostInArbitration => none
  | .rejected _ => none
  | .discarded _ => none
  | .refusedAsBusy => none
  | .dropped => none
  | .busIdle => none
  | .leadStep _ => none
  | .rollTimeout _ => none
  | .gateWaitTimerExpires _ => none
  | .silenceTimerExpires _ _ => none
  | .beaconTimerExpires => none
  | .listenTimerExpires => none
  | .limitAsserted _ _ => none
  | .dalmAsserted _ => none
  | .stopinAsserted _ => none
  | .homeAsserted _ => none
  | .inputChangeInactive _ => none
  | .resetAsserted => none
  | .powerOn _ _ => none
  | .lineLevelChange _ _ => none
  | .dominantBitOutsideFrame => none

/-- A well-formed command's sender has a node's address (R120). -/
def Statement (i : Instr) : Prop := i.wf = true → ∀ a ∈ sender i, 1 ≤ a ∧ a ≤ 30

/-- An address field in range (R120). -/
theorem addrWf_range {a : Nat} (h : addrWf a = true) : 1 ≤ a ∧ a ≤ 30 := by
  simpa [addrWf, within] using h

/-- The first of two checks that both hold. -/
theorem first {a b : Bool} (h : (a && b) = true) : a = true := by
  cases a
  · cases h
  · rfl

theorem configGroup (src num group : Nat) (members : List Nat) : Statement (.configGroup src num group members) := by
  rintro h _ ⟨⟩
  exact addrWf_range (first (first (first (first h))))

theorem configProfile (src num slot kind startRate cruiseRate rampLength : Nat) : Statement (.configProfile src num slot kind startRate cruiseRate rampLength) := by
  rintro h _ ⟨⟩
  exact addrWf_range (first (first (first (first (first (first (first h)))))))

theorem configProfileTablePart (src num slot count start : Nat) (entries : List (Nat × Nat)) : Statement (.configProfileTablePart src num slot count start entries) := by
  rintro h _ ⟨⟩
  exact addrWf_range (first (first (first (first (first (first h))))))

theorem configLimits (src num : Nat) (softMin softMax : Signed32) : Statement (.configLimits src num softMin softMax) := by
  rintro h _ ⟨⟩
  exact addrWf_range (first h)

theorem configTiming (src num beaconMs lossMs rollMs : Nat) : Statement (.configTiming src num beaconMs lossMs rollMs) := by
  rintro h _ ⟨⟩
  exact addrWf_range (first (first (first (first h))))

theorem configInputs (src num limp limn home dalm stopin : Nat) (homeValue : Signed32) : Statement (.configInputs src num limp limn home dalm stopin homeValue) := by
  rintro h _ ⟨⟩
  exact addrWf_range (first (first (first (first (first (first h))))))

theorem commit (src num : Nat) : Statement (.commit src num) := by
  rintro h _ ⟨⟩
  exact addrWf_range (first h)

theorem load (src num : Nat) (fields : LoadFields) : Statement (.load src num fields) := by
  rintro h _ ⟨⟩
  exact addrWf_range (first (first h))

theorem flush (src num : Nat) : Statement (.flush src num) := by
  rintro h _ ⟨⟩
  exact addrWf_range (first h)

theorem stop (src num kind : Nat) : Statement (.stop src num kind) := by
  rintro h _ ⟨⟩
  exact addrWf_range (first (first h))

theorem resume (src num : Nat) : Statement (.resume src num) := by
  rintro h _ ⟨⟩
  exact addrWf_range (first h)

theorem setpos (src num : Nat) (value : Signed32) : Statement (.setpos src num value) := by
  rintro h _ ⟨⟩
  exact addrWf_range (first h)

theorem scale (src num percent : Nat) : Statement (.scale src num percent) := by
  rintro h _ ⟨⟩
  exact addrWf_range (first (first h))

theorem queryNode (src num : Nat) : Statement (.queryNode src num) := by
  rintro h _ ⟨⟩
  exact addrWf_range (first h)

theorem queryGroup (src num group index : Nat) : Statement (.queryGroup src num group index) := by
  rintro h _ ⟨⟩
  exact addrWf_range (first (first (first h)))

theorem queryQueue (src num index : Nat) : Statement (.queryQueue src num index) := by
  rintro h _ ⟨⟩
  exact addrWf_range (first (first h))

theorem restart (src num : Nat) : Statement (.restart src num) := by
  rintro h _ ⟨⟩
  exact addrWf_range (first h)

theorem readyTaken (src : Nat) (group tag : Nat) : Statement (.readyTaken src group tag) := by
  rintro h _ ⟨⟩
  exact addrWf_range (first (first h))

theorem withdrawTaken (src : Nat) (group tag : Nat) (cause : Cause) : Statement (.withdrawTaken src group tag cause) := by
  rintro h _ ⟨⟩
  exact addrWf_range (first (first h))

theorem haltTaken (src : Nat) (group : Nat) (kind : HaltKind) (cause : Cause) (tag : Option Nat) : Statement (.haltTaken src group kind cause tag) := by
  rintro h _ ⟨⟩
  exact addrWf_range (first (first h))

theorem markTaken (src : Nat) (tag marker : Nat) (outcome : MarkOutcome) : Statement (.markTaken src tag marker outcome) := by
  rintro h _ ⟨⟩
  exact addrWf_range (first (first h))

theorem groupScaleTaken (src : Nat) (group percent : Nat) : Statement (.groupScaleTaken src group percent) := by
  rintro h _ ⟨⟩
  exact addrWf_range (first (first h))

theorem beaconTaken (src : Nat) (state : NodeState) (depth : Nat) : Statement (.beaconTaken src state depth) := by
  rintro h _ ⟨⟩
  exact addrWf_range (first h)

theorem replyFrameTaken (src : Nat) : Statement (.replyFrameTaken src) := by
  rintro h _ ⟨⟩
  exact addrWf_range h

theorem malformedFrameTaken (frame : RawFrame) : Statement (.malformedFrameTaken frame) := by
  rintro - _ ⟨⟩

theorem frameRejectedInSlot (frame : RawFrame) : Statement (.frameRejectedInSlot frame) := by
  rintro - _ ⟨⟩

theorem ownFrameTaken : Statement .ownFrameTaken := by
  rintro - _ ⟨⟩

theorem lostInArbitration : Statement .lostInArbitration := by
  rintro - _ ⟨⟩

theorem rejected (how : RejectedBy) : Statement (.rejected how) := by
  rintro - _ ⟨⟩

theorem discarded (how : RejectedBy) : Statement (.discarded how) := by
  rintro - _ ⟨⟩

theorem refusedAsBusy : Statement .refusedAsBusy := by
  rintro - _ ⟨⟩

theorem dropped : Statement .dropped := by
  rintro - _ ⟨⟩

theorem busIdle : Statement .busIdle := by
  rintro - _ ⟨⟩

theorem leadStep (inSlot : Bool) : Statement (.leadStep inSlot) := by
  rintro - _ ⟨⟩

theorem rollTimeout (inSlot : Bool) : Statement (.rollTimeout inSlot) := by
  rintro - _ ⟨⟩

theorem gateWaitTimerExpires (inSlot : Bool) : Statement (.gateWaitTimerExpires inSlot) := by
  rintro - _ ⟨⟩

theorem silenceTimerExpires (peer : Nat) (inSlot : Bool) : Statement (.silenceTimerExpires peer inSlot) := by
  rintro - _ ⟨⟩

theorem beaconTimerExpires : Statement .beaconTimerExpires := by
  rintro - _ ⟨⟩

theorem listenTimerExpires : Statement .listenTimerExpires := by
  rintro - _ ⟨⟩

theorem limitAsserted (side : LimitSide) (inSlot : Bool) : Statement (.limitAsserted side inSlot) := by
  rintro - _ ⟨⟩

theorem dalmAsserted (inSlot : Bool) : Statement (.dalmAsserted inSlot) := by
  rintro - _ ⟨⟩

theorem stopinAsserted (inSlot : Bool) : Statement (.stopinAsserted inSlot) := by
  rintro - _ ⟨⟩

theorem homeAsserted (inSlot : Bool) : Statement (.homeAsserted inSlot) := by
  rintro - _ ⟨⟩

theorem inputChangeInactive (input : InputName) : Statement (.inputChangeInactive input) := by
  rintro - _ ⟨⟩

theorem resetAsserted : Statement .resetAsserted := by
  rintro - _ ⟨⟩

theorem powerOn (addr : BitVec 5) (rate : BitVec 2) : Statement (.powerOn addr rate) := by
  rintro - _ ⟨⟩

theorem lineLevelChange (input : InputName) (level : Level) : Statement (.lineLevelChange input level) := by
  rintro - _ ⟨⟩

theorem dominantBitOutsideFrame : Statement .dominantBitOutsideFrame := by
  rintro - _ ⟨⟩

end Sys2Proof.Laws.Senders
end

