-- ==== Sys2Proof/Tests/Slice0.lean ====
section
/-! SUPPORT. Tests: the small states they start from, the checks of well-formedness, one-step tests of the commands with
results calculated from the rules or taken from the manual's examples, and a witness for the hypotheses of each statement. -/

open Sys2Proof Sys2Proof.Machine

namespace Sys2Proof.Tests

/-! ## The invariants as a check -/

/-- A pending step fits. -/
def fitsB (A left c : Nat) : StepKind → Bool
  | .climb => decide (c < A) && decide (c + 2 ≤ left)
  | .hold => decide (c + 1 ≤ left)
  | .descent => true

/-- The lead of the move in hand fits. -/
def leadB (s : State) : Bool :=
  match s.mc.queue, s.lead.step, s.gate.held with
  | m :: _, some st, some h =>
    decide (h.tag = m.tag) && decide (s.lead.p < m.lead) && decide (s.lead.c ≤ (s.profileOf m).rampLength) && decide (s.lead.c ≤ m.lead - s.lead.p) &&
    fitsB (s.profileOf m).rampLength (m.lead - s.lead.p) s.lead.c st.kind && decide (s.lead.acc < m.lead) &&
    decide (s.lead.pulses * m.lead + s.lead.acc = s.lead.p * m.dist.natAbs)
  | _, _, _ => false

/-- The node state's own conditions on the queue and the causes. -/
def causesB (s : State) : Bool :=
  match s.mc.state with
  | .unconfigured => decide (s.mc.queue = []) && decide (s.mc.causes = 0)
  | .idle => decide (s.mc.queue = []) && decide (s.mc.causes = 0)
  | .pending => decide (s.mc.queue ≠ []) && decide (s.mc.causes = 0)
  | .announcing => decide (s.mc.queue ≠ []) && decide (s.mc.causes = 0)
  | .armed => decide (s.mc.queue ≠ []) && decide (s.mc.causes = 0)
  | .running => decide (s.mc.queue ≠ [])
  | .stopping => decide (s.mc.queue ≠ [])
  | .held => decide (s.mc.causes ≠ 0)

/-- Nothing left to do. -/
def settledB (s : State) : Bool :=
  !s.mc.linkDue && (decide (s.mc.state ≠ .pending) || decide (∀ m ∈ s.mc.queue.head?, s.readyFor m = false)) &&
  (decide (¬ s.fq.count .urgent < share .urgent) || decide (∀ n ∈ s.mc.notices, n.status ≠ .waiting))

/-- The tables are as their records made them. -/
def tablesB (s : State) : Bool :=
  decide ((s.store.groups.map (·.number)).Nodup ∧
    (∀ r ∈ s.store.groups, s.self ∈ r.members ∧ ∀ a ∈ r.members, 1 ≤ a ∧ a ≤ 30) ∧
    (s.roll.groups.map (·.number)).Nodup ∧ (∀ e ∈ s.roll.groups, s.self ∈ e.members ∧ e.members.Nodup) ∧
    (s.peer.peers.map (·.addr)).Nodup ∧ ∀ e ∈ s.peer.peers, e.addr ≠ s.self) &&
  s.mc.queue.all fun m => m.group.all fun g => s.roll.groups.any fun e => decide (e.number = g)

/-- The READY of an announced head. -/
def readyB (s : State) : Bool :=
  let own := fun f : OutFrame => match s.mc.queue with
    | m :: _ => match m.group with | some g => decide (f = .ready g m.tag) | none => false
    | [] => false
  decide (s.mc.state = .announcing → (s.fq.entries.countP fun e => e.frame.isReady) = 1) &&
  (s.fq.entries.all fun e => !e.frame.isReady || (decide (s.mc.state = .announcing) && own e.frame)) &&
  (!s.mc.state.announced || match s.mc.queue with | m :: _ => decide (m.group ≠ none) | [] => false)

/-- All the invariants. -/
def okB (s : State) : Bool :=
  ([FrameClass.urgent, .sync, .reply, .beacon].all fun k => decide (s.fq.count k ≤ share k)) &&
  decide (s.fq.reserved = true → s.fq.count .reply < share .reply ∧ s.link.inFrame = true ∧ s.link.state ≠ .offline) &&
  decide (s.mc.queue.length ≤ 16) && decide (s.mc.queue.map (·.tag)).Nodup &&
  decide (∀ m ∈ s.mc.queue, 1 ≤ m.lead ∧ m.dist.natAbs ≤ m.lead) &&
  decide (s.lead.phase = .run ↔ s.mc.state = .running) && decide (s.lead.phase = .descent ↔ s.mc.state = .stopping) &&
  (if s.mc.state.moving then leadB s else decide (s.lead.step = none)) &&
  (!(s.mc.state.announced || s.mc.state.moving) ||
    decide (0 < s.fq.free ∧ s.mc.record = none ∧ s.gate.timer = none)) &&
  causesB s && decide (s.mc.holdPending = true → s.mc.causes ≠ 0) &&
  decide ((s.mc.kept ≠ [] → s.mc.state = .announcing) ∧
    ∀ c ∈ s.mc.kept, c ∈ [Cause.rollTimeout, .driveAlarm, .stopInput, .limitActive, .peerLost]) &&
  decide (s.store.committed = true ↔ s.mc.state ≠ .unconfigured) &&
  decide (s.mc.state = .unconfigured →
    s.roll.groups = [] ∧ s.gate.marks = [] ∧ s.peer.peers = [] ∧ s.mc.notices = [] ∧ s.out.dren = false) &&
  decide (s.link.state ≠ .active → s.fq.sending = none) &&
  decide (s.link.listenTimer.isSome = true ↔ s.link.state = .listenOnly) &&
  decide ((s.fq.entries.countP fun e => decide (e.status = .inTransmission)) ≤ 1) &&
  decide (s.fq.sending ≠ none → s.link.inFrame = true) && decide (s.link.inFrame = true → s.link.idleCount < 12) &&
  decide (s.gate.marks.length ≤ 8) && decide (s.gate.marks.map fun r => (r.source, r.tag, r.marker)).Nodup &&
  decide (∀ r ∈ s.gate.marks, namedBy s.unstarted r = true) &&
  decide ((s.unstarted.flatMap (·.gates)).dedup.length ≤ 8) &&
  decide (s.mc.notices.map (·.group)).Nodup &&
  (s.mc.notices.all fun n => causeInNotice n.content.cause && n.upgrade.all fun u => causeInNotice u.cause) &&
  tablesB s && readyB s && settledB s

theorem settled_of_check {s : State} (h : settledB s = true) : s.settled := by
  simp only [settledB, Bool.and_eq_true, Bool.or_eq_true, Bool.not_eq_true', decide_eq_true_eq] at h
  obtain ⟨⟨h1, h2⟩, h3⟩ := h
  exact ⟨h1, fun hp => h2.resolve_left (by simpa using hp), fun hp => h3.resolve_left (by simpa using hp)⟩

theorem leadFits_of_check {s : State} (h : leadB s = true) :
    ∃ m rest ks, s.mc.queue = m :: rest ∧ leadFits (s.profileOf m) m s.lead ∧
      s.gate.held = some { tag := m.tag, unreached := ks } := by
  unfold leadB at h
  split at h
  · rename_i m rest st held hq hs hh
    simp only [Bool.and_eq_true, decide_eq_true_eq] at h
    obtain ⟨⟨⟨⟨⟨⟨h0, h1⟩, h2⟩, h3⟩, h4⟩, h5⟩, h6⟩ := h
    refine ⟨m, rest, held.unreached, hq, ⟨h1, h2, h3, ⟨st, hs, ?_⟩, h5, h6⟩, by rw [hh, ← h0]⟩
    cases hk : st.kind <;> simp_all [fitsB, stepFits]
  · cases h

theorem notices_of_check {ns : List Notice}
    (h : (ns.all fun n => causeInNotice n.content.cause && n.upgrade.all fun u => causeInNotice u.cause) = true) :
    ∀ n ∈ ns, causeInNotice n.content.cause = true ∧ ∀ u, n.upgrade = some u → causeInNotice u.cause = true := by
  intro n hn
  have := List.all_eq_true.mp h n hn
  simp only [Bool.and_eq_true] at this
  exact ⟨this.1, fun u hu => by simpa [hu] using this.2⟩

theorem tables_of_check {s : State} (h : tablesB s = true) : s.tablesOk := by
  simp only [tablesB, Bool.and_eq_true, decide_eq_true_eq] at h
  obtain ⟨⟨h1, h2, h3, h4, h5, h6⟩, h7⟩ := h
  exact ⟨h1, h2, h3, h4, h5, h6, fun m hm g hg => by simpa [hg] using List.all_eq_true.mp h7 m hm⟩

theorem ready_of_check {s : State} (h : readyB s = true) : s.readyOk := by
  simp only [readyB, Bool.and_eq_true, decide_eq_true_eq] at h
  obtain ⟨⟨h1, h2⟩, h3⟩ := h
  refine ⟨h1, fun e he hr => ?_, fun ha => ?_⟩
  · have := List.all_eq_true.mp h2 e he
    rw [hr] at this
    split at this <;> rename_i hq
    · split at this <;> simp_all
    · simp_all
  · split at h3 <;> simp_all

theorem ok_of_check {s : State} (h : okB s = true) : s.ok := by
  simp only [okB, Bool.and_eq_true, decide_eq_true_eq, List.all_cons, List.all_nil] at h
  obtain ⟨⟨⟨⟨⟨⟨⟨⟨⟨⟨⟨⟨⟨⟨⟨⟨⟨⟨⟨⟨⟨⟨⟨⟨⟨⟨⟨a1, a2⟩, b1⟩, b2⟩, b3⟩, c1⟩, c2⟩, c3⟩, d⟩, e1⟩, e2⟩, e3⟩, f1⟩, f2⟩, g1⟩, g2⟩, g3⟩, g4⟩,
    g5⟩, m1⟩, m2⟩, m3⟩, m4⟩, n⟩, n2⟩, tb⟩, rd⟩, z⟩ := h
  refine ⟨⟨fun k => ?_, a2⟩, ⟨b1, b2, b3⟩, ⟨c1, c2, fun hm => ?_, fun hm => ?_⟩, fun hm => ?_, ⟨?_, e2, e3⟩, ⟨f1, f2⟩,
    tables_of_check tb, ready_of_check rd, ⟨g1, g2, g3, g4, g5⟩, ⟨m1, m2, m3, m4⟩, ⟨n, notices_of_check n2⟩,
    settled_of_check z⟩
  · cases k <;> simp_all
  · simpa [hm] using c3
  · exact leadFits_of_check (by simpa [hm] using c3)
  · rcases hm with hm | hm <;> simpa [hm] using d
  · unfold causesB at e1
    cases hs : s.mc.state <;> simp_all

/-! ## States to start from -/

/-- A move of tag `t`: 10 lead steps, distance 5, profile slot 0, no gates, no markers. -/
def mv (t : Nat) (g : Option Nat) : Move :=
  { tag := t, origin := 20, group := g, kind := .travel, slot := 0, lead := 10, dist := 5, gates := [], waitLimit := none,
    markers := [], withdrawnBy := false }

/-- Node 5 on an ACTIVE link, not configured. -/
def bare : State := { State.reset with link := { Link.powerOn 5 2 with state := .active } }

/-- Node 5 with a profile LINEAR 100, 500, 4 in slot 0 and a member of group 2 with 3 and 7, both PRESENT: IDLE. -/
def idle : State :=
  { bare with
    store := { Store.powerOn with
      groups := [{ number := 2, members := [3, 5, 7] }], slots := { Store.powerOn.slots with s0 := .ramp .linear 100 500 4 },
      committed := true }
    roll := { groups := [{ number := 2, state := .whole, scale := 100,
                           roll := [⟨3, none⟩, ⟨5, none⟩, ⟨7, none⟩] }], timer := none }
    peer := { peers := [⟨3, .present, some .idle, some 100⟩, ⟨7, .present, some .idle, some 100⟩], beaconTimer := some 20 }
    mc := { MoveCtl.powerOn with state := .idle }
    out := { Outputs.powerOn with dren := true } }

/-- A PENDING node whose head waits for the mark (3, 9, 0), its gate wait timer running. -/
def waiting : State :=
  { idle with
    mc := { idle.mc with state := .pending, queue := [{ mv 1 (some 2) with gates := [⟨3, 9, 0⟩], waitLimit := some 50 }] }
    gate := { marks := [], timer := some 50, held := none } }

/-- A node HELD with LIMIT over a head of group 2. -/
def held : State := { idle with mc := { idle.mc with state := .held, causes := 1, queue := [mv 1 (some 2)] } }

/-- An entry of the Frame Queue. -/
def entry (f : OutFrame) (st : EntryStatus) (busy : Nat) : Entry := { frame := f, status := st, busy }

/-- The entries of the Frame Queue; with one of them in transmission a frame is in progress. -/
def withFrames (s : State) (es : List Entry) : State :=
  { s with fq := { entries := es, reserved := false }
           link := { s.link with inFrame := es.any fun e => decide (e.status = .inTransmission) } }

/-- Three rejected attempts in a row have been made. -/
def thrice (s : State) : State := { s with link := { s.link with rejects := 3 } }

/-- The bus is idle. -/
def quiet (s : State) : State := { s with link := { s.link with idleCount := 12 } }

/-- The slot of another party's frame that asks this node for a reply, an entry reserved for it. -/
def slotted (s : State) : State := { s with fq := { s.fq with reserved := true }, link := { s.link with inFrame := true } }

/-- A node ANNOUNCING the move 1 of group 2, its READY with the status given, and the causes kept for it. -/
def announcing (st : EntryStatus) (kept : List Cause) : State :=
  { withFrames idle [entry (.ready 2 1) st 0] with
    mc := { idle.mc with state := .announcing, queue := [mv 1 (some 2)], kept }
    roll := { idle.roll with timer := some 60 } }

/-- A node ARMED for the move 1 of group 2: its own roll entry names it. -/
def armed : State :=
  { idle with
    mc := { idle.mc with state := .armed, queue := [mv 1 (some 2)] }
    roll := { groups := [{ number := 2, state := .whole, scale := 100,
                           roll := [⟨3, none⟩, ⟨5, some 1⟩, ⟨7, some 1⟩] }], timer := some 60 } }

/-- A node RUNNING the move 1 of group `g`, `p` steps on with the climb counter `c` and a step of this kind to come. -/
def running (g : Option Nat) (p c : Nat) (k : StepKind) : State :=
  { idle with
    mc := { idle.mc with state := .running, queue := [mv 1 g] }
    gate := { marks := [], timer := none, held := some { tag := 1, unreached := [] } }
    lead := { Lead.powerOn 0 with phase := .run, p := p, c := c, cap := some 500, step := some ⟨k, 100⟩, acc := p * 5 % 10,
                                  pulses := p * 5 / 10 } }

/-- A node STOPPING in a halt descent for a STATION_STOP. -/
def stopping (p c : Nat) : State :=
  { running (some 2) p c .descent with
    mc := { idle.mc with state := .stopping, queue := [mv 1 (some 2)], causes := withCause 0 .stationStop,
                         descentCause := some .stationStop }
    lead := { (running (some 2) p c .descent).lead with phase := .descent } }

/-- A retirement record that waits. -/
def record : WaitingRecord :=
  { origin := 20, record := { tag := 8, group := none, outcome := .complete, cause := none, progress := 10, pulses := 5,
                              position := 5 } }

/-- A HELD node that sends an ACK with this busy count, a retirement record waiting or not. -/
def replying (busy : Nat) (w : Option WaitingRecord) : State :=
  { withFrames held [entry (.ack 20 1 9 none) .inTransmission busy] with mc := { held.mc with record := w } }

/-- A HELD node whose head's gate wait timer expired while a record waited, `n` replies queued behind its last attempt. -/
def expired (n : Nat) : State :=
  { withFrames held (entry (.ack 20 1 9 none) .inTransmission 15 ::
      (List.range n).map fun i => entry (.ack 20 i 9 none) .queued 0) with
    mc := { held.mc with queue := waiting.mc.queue, record := some record, deferredExpiry := true } }

/-- Full replies. -/
def full (s : State) : State :=
  withFrames s ((List.range 4).map fun n => entry (.ack 20 n 9 none) .queued 0)

/-- A PENDING node whose head is held back by the full REPLY share, one of the replies at its last attempt, and what waits
for an entry. -/
def heldBack (w : Option WaitingRecord) (deferred : Bool) : State :=
  { withFrames idle (entry (.ack 20 1 9 none) .inTransmission 15 ::
      (List.range 3).map fun i => entry (.ack 20 i 9 none) .queued 0) with
    mc := { idle.mc with state := .pending, queue := [mv 1 (some 2)], record := w, deferredExpiry := deferred } }

/-- The state after a command. -/
def after (c : Instr) (s : State) : State :=
  match exec c s with
  | .next t => t
  | _ => s

/-- The frames of the Frame Queue, oldest first. -/
def frames (s : State) : List OutFrame := s.fq.entries.map (·.frame)

theorem bare_ok : bare.ok := ok_of_check (by decide)
theorem idle_ok : idle.ok := ok_of_check (by decide)
theorem waiting_ok : waiting.ok := ok_of_check (by decide)
theorem held_ok : held.ok := ok_of_check (by decide)
theorem announcing_ok : (announcing .queued []).ok := ok_of_check (by decide)
theorem sending_ok : (announcing .inTransmission []).ok := ok_of_check (by decide)
theorem kept_ok : (announcing .inTransmission [.limitActive, .rollTimeout]).ok := ok_of_check (by decide)
theorem armed_ok : armed.ok := ok_of_check (by decide)
theorem running_ok : (running (some 2) 2 2 .hold).ok := ok_of_check (by decide)
theorem flat_ok : (running (some 2) 0 0 .climb).ok := ok_of_check (by decide)
theorem stopping_ok : (stopping 3 2).ok := ok_of_check (by decide)
theorem slotted_ok : (slotted armed).ok := ok_of_check (by decide)

/-! ## Well-formedness: an ill-formed term for each check -/

/-- A LOAD that is well formed. -/
def fields : LoadFields :=
  { tag := 5, group := some 2, kind := 0, slot := 0, leadLength := 10, distance := 6, gates := [⟨3, 9, 0⟩],
    waitLimit := some 50, markers := [⟨0, 4, 1⟩] }

theorem test_wf_accepts :
    [Instr.configGroup 20 0 2 [3, 5], .configProfile 20 255 0 0 16 16 1, .configProfileTablePart 20 0 0 2 1 [(16, 1)],
     .configLimits 30 0 0 1, .configTiming 1 0 5 10 0, .configInputs 20 0 0 0 0 0 1 0, .commit 20 0, .load 20 0 fields,
     .flush 20 0, .stop 20 0 1, .resume 20 0, .setpos 20 0 0, .scale 20 0 100, .queryNode 20 0, .queryGroup 20 0 2 1,
     .queryQueue 20 0 16, .restart 20 0, .readyTaken 3 62 65535, .withdrawTaken 3 1 1 .link,
     .haltTaken 3 2 .now .link (some 1), .markTaken 3 1 1 .void, .groupScaleTaken 3 2 5, .beaconTaken 3 .idle 16,
     .replyFrameTaken 30, .malformedFrameTaken ((OutFrame.ready 2 3).raw 4), .silenceTimerExpires 3].all Instr.wf = true := by
  decide

theorem test_wf_refuses_source_and_number :
    [Instr.commit 0 0, .commit 31 0, .commit 20 256, .readyTaken 0 2 1, .withdrawTaken 31 2 1 .link,
     .haltTaken 0 2 .now .link none, .markTaken 31 1 0 .void, .groupScaleTaken 0 2 5, .beaconTaken 31 .idle 0,
     .replyFrameTaken 0, .silenceTimerExpires 31].all (fun i => !i.wf) = true := by decide

theorem test_wf_refuses_configuration_fields :
    [Instr.configGroup 20 0 256 [3, 5], .configGroup 20 0 2 [32], .configGroup 20 0 2 [3, 3], .configProfile 20 0 256 0 16 16 1,
     .configProfile 20 0 0 256 16 16 1, .configProfile 20 0 0 2 16 16 1, .configProfile 20 0 0 0 16777216 16 1,
     .configProfile 20 0 0 0 16 16777216 1, .configProfile 20 0 0 0 16 16 65536, .configProfileTablePart 20 0 256 2 1 [],
     .configProfileTablePart 20 0 0 256 1 [], .configProfileTablePart 20 0 0 2 256 [],
     .configProfileTablePart 20 0 0 9 1 [(1, 1), (1, 1), (1, 1), (1, 1), (1, 1), (1, 1)],
     .configProfileTablePart 20 0 0 2 1 [(16777216, 1)], .configProfileTablePart 20 0 0 2 1 [(1, 65536)],
     .configTiming 20 0 65536 10 0, .configTiming 20 0 5 65536 0, .configTiming 20 0 5 10 65536,
     .configInputs 20 0 256 0 0 0 0 0, .configInputs 20 0 0 256 0 0 0 0, .configInputs 20 0 0 0 256 0 0 0,
     .configInputs 20 0 0 0 0 256 0 0, .configInputs 20 0 0 0 0 0 256 0].all (fun i => !i.wf) = true := by decide

theorem test_wf_refuses_load_fields :
    [{ fields with tag := 65536 }, { fields with group := some 0 }, { fields with group := some 256 },
     { fields with kind := 256 }, { fields with slot := 256 }, { fields with leadLength := 16777216 },
     { fields with waitLimit := some 65536 }, { fields with gates := List.replicate 4 ⟨3, 9, 0⟩ },
     { fields with markers := List.replicate 4 ⟨0, 4, 1⟩ }, { fields with gates := [⟨256, 9, 0⟩] },
     { fields with gates := [⟨3, 65536, 0⟩] }, { fields with gates := [⟨3, 9, 256⟩] }, { fields with markers := [⟨16, 4, 1⟩] },
     { fields with markers := [⟨0, 16777216, 1⟩] }, { fields with markers := [⟨0, 4, 16⟩] },
     { fields with gates := List.replicate 3 ⟨3, 9, 0⟩, markers := List.replicate 2 ⟨0, 4, 1⟩ }].all
      (fun f => !(Instr.load 20 0 f).wf) = true := by decide

theorem test_wf_refuses_other_fields :
    [Instr.stop 20 0 256, .scale 20 0 256, .queryGroup 20 0 256 1, .queryGroup 20 0 2 256, .queryQueue 20 0 256,
     .readyTaken 3 0 1, .readyTaken 3 63 1, .readyTaken 3 2 0, .readyTaken 3 2 65536, .withdrawTaken 3 0 1 .link,
     .withdrawTaken 3 2 0 .link, .haltTaken 3 63 .now .link none, .haltTaken 3 2 .now .link (some 0),
     .markTaken 3 0 0 .void, .markTaken 3 1 2 .void, .groupScaleTaken 3 0 5, .groupScaleTaken 3 2 256,
     .beaconTaken 3 .idle 17].all (fun i => !i.wf) = true := by decide

theorem test_wf_refuses_raw_frame :
    (Instr.malformedFrameTaken { (OutFrame.ready 2 3).raw 4 with payload := [] }).wf = false ∧
    (Instr.frameRejectedInSlot { (OutFrame.ready 2 3).raw 4 with len := 40 }).wf = false := by decide

/-! ## One step of each command -/

theorem test_configGroup_stored :
    (after (.configGroup 20 7 2 [3, 5, 7]) bare).store.groups = [{ number := 2, members := [3, 5, 7] }] := by decide

theorem test_configGroup_without_this_node : frames (after (.configGroup 20 7 2 [3, 7]) bare) = [.nak 20 7 8 .badField] := by
  decide

theorem test_configProfile_example_rates :
    (List.range 4).map ((after (.configProfile 20 1 2 0 16 20 3) bare).store.slots.get 2).rate = [16, 17, 18, 20] := by decide

theorem test_configProfile_start_above_cruise : frames (after (.configProfile 20 1 0 0 20 16 3) bare) = [.nak 20 1 8 .badField] := by
  decide

theorem test_tablePart_leaves_the_slot_partial :
    ((after (.configProfileTablePart 20 1 3 3 2 [(200, 1)]) bare).store.slots.get 3).isPartial = true := by decide

theorem test_tablePart_last_count_not_zero :
    frames (after (.configProfileTablePart 20 1 3 2 1 [(100, 1), (200, 1)]) bare) = [.nak 20 1 8 .badField] := by decide

/-- Entries 1..17 of 32, each with a count of 4,095: without the last the counts sum to 65,520 (R126). -/
theorem test_tablePart_sum_without_the_last_present :
    let counts := fun n : Nat => (List.range 32).map fun k => if k < n then some (⟨k + 16, 4095⟩ : TableEntry) else none
    tableOk (counts 17) = true ∧ tableOk (counts 18) = false := by decide

theorem test_configLimits_equal : frames (after (.configLimits 20 1 5 5) bare) = [.nak 20 1 8 .badField] := by decide

theorem test_configLimits_stored :
    (after (.configLimits 20 1 (BitVec.ofInt 32 (-5)) 5) bare).store.limits = some { softMin := -5, softMax := 5 } := by decide

theorem test_configTiming_bounds :
    (after (.configTiming 20 1 5 10 0) bare).store.timing = some { beacon := 5, loss := 10, roll := 0 } ∧
    (after (.configTiming 20 1 4 10 0) bare).store.timing = none := by decide

theorem test_configInputs_after_commit : frames (after (.configInputs 20 1 0 0 0 0 0 0) idle) = [.nak 20 1 8 .badState] := by
  decide

theorem test_commit_without_profile : frames (after (.commit 20 1) bare) = [.nak 20 1 9 .noProfile] := by decide

theorem test_commit_builds :
    let s := { bare with store := { idle.store with committed := false } }
    (after (.commit 20 1) s).mc.state = .idle ∧ (after (.commit 20 1) s).out.dren = true ∧
    (after (.commit 20 1) s).peer.peers.map (·.addr) = [3, 7] := by decide

theorem test_load_gives_the_depth : frames (after (.load 20 4 { fields with tag := 6 }) held) = [.ack 20 4 10 (some 2)] := by decide

theorem test_load_solo_starts_at_once :
    let s := after (.load 20 4 { fields with group := none, gates := [], waitLimit := none }) idle
    s.mc.state = .running ∧ s.lead.step = some ⟨.climb, 100⟩ ∧ s.out.dir = .forward := by decide

theorem test_flush_counts : frames (after (.flush 20 4) waiting) = [.ack 20 4 11 (some 1)] ∧
    (after (.flush 20 4) waiting).mc.state = .idle := by decide

theorem test_flush_running : frames (after (.flush 20 4) (running none 2 2 .hold)) = [.nak 20 4 11 .badState] := by decide

theorem test_stop_ramp_begins_a_descent :
    (after (.stop 20 4 0) (running none 2 2 .hold)).mc.state = .stopping ∧
    (after (.stop 20 4 0) (running none 2 2 .hold)).lead.step = some ⟨.hold, 100⟩ := by decide

/-- The move completes in the slot of a STOP with 2 REPLY entries free: its REPORT takes one, and the STOP is still taken and
answered (R156). Told before the slot, the same step leaves the STOP no room. -/
theorem test_move_completes_in_the_slot_of_a_stop :
    let s := withFrames (running none 9 1 .descent) ((List.range 2).map fun n => entry (.ack 21 n 9 none) .queued 0)
    let inSlot := after (.stop 20 4 0) (after (.leadStep true) s)
    let before := after (.stop 20 4 0) (after .leadStep s)
    s.fq.free = 2 ∧ inSlot.mc.causes = withCause 0 .stationStop ∧ (frames inSlot).getLast? = some (.ack 20 4 12 none) ∧
    before.mc.causes = 0 ∧ before.link.marks = SlotMarks.busy := by decide

/-- A HELD node whose MARK is in transmission, with 2 REPLY entries free and the gate wait timer of its head running. -/
def droppedOut : State :=
  { withFrames held (entry (.mark 1 0 .void) .inTransmission 0 ::
      (List.range 2).map fun n => entry (.ack 21 n 9 none) .queued 0) with
    mc := { held.mc with queue := waiting.mc.queue }
    gate := waiting.gate }

/-- The node drops out of its MARK, and the frame it hears is a request to it from its own address; its head is retired in that
frame's slot. The slot found 2 entries free, so the node marks nothing, takes the frame, and finds the clash (R139, R147). -/
theorem test_retirement_in_the_slot_of_a_clash :
    let t := after (.queryNode 5 1) (after (.gateWaitTimerExpires true) droppedOut)
    droppedOut.fq.free = 2 ∧ t.link.state = .blocked ∧ t.link.marks = SlotMarks.none ∧ t.fq.reserved = false ∧
    t.fq.count .reply = 3 := by decide

theorem test_stop_now_tells_the_group :
    frames (after (.stop 20 4 1) (running (some 2) 2 2 .hold)) =
      [.report 20 { tag := 1, group := some 2, outcome := .halted, cause := some .stationStop, progress := 2, pulses := 1,
                    position := 0 },
       .ack 20 4 12 none, .halt 2 .now .stationStop 1] := by decide

theorem test_resume_announces_the_head :
    (after (.resume 20 4) held).mc.state = .announcing ∧ (after (.resume 20 4) held).mc.causes = 0 := by decide

theorem test_resume_with_dalm_asserted :
    let s := { held with inp := { held.inp with dalm := { line := .low, filtered := .low, filtering := false } } }
    frames (after (.resume 20 4) s) = [.nak 20 4 13 .causePersists] := by decide

theorem test_setpos : (after (.setpos 20 4 (BitVec.ofInt 32 (-7))) held).plannedEnd = some (-2) := by decide

theorem test_setpos_running : frames (after (.setpos 20 4 0) (running none 2 2 .hold)) = [.nak 20 4 14 .badState] := by decide

theorem test_scale_raised_to_the_start_rate :
    (after (.scale 20 4 5) (running none 2 2 .hold)).lead.cap = some 100 ∧
    (after (.scale 20 4 80) (running none 2 2 .hold)).lead.cap = some 400 := by decide

theorem test_scale_four_percent : frames (after (.scale 20 4 4) idle) = [.nak 20 4 5 .badField] := by decide

theorem test_queryNode_of_a_running_node :
    (frames (after (.queryNode 20 4) (running none 2 2 .hold))).map OutFrame.payload =
      [[4, 0, 5, 0, 0, 0x0E, 0, 0, 0, 0, 0, 0, 0, 0, 4, 1, 0, 1, 0, 0, 2, 0, 0, 100, 100, 1, 2, 0, 0]] := by decide

theorem test_queryGroup_own_line :
    (frames (after (.queryGroup 20 4 2 2) armed)).map OutFrame.payload =
      [[4, 1, 2, 1, 100, 3, 2, 5, 0, 1, 0x45, 7, 0, 1, 0x15]] := by decide

theorem test_queryQueue_open_gate :
    (frames (after (.queryQueue 20 4 1) waiting)).map OutFrame.payload = [[4, 2, 1, 1, 0, 1, 2, 0, 0, 0, 5, 2]] := by decide

theorem test_restart_keeps_the_position :
    let s := { held with lead := { held.lead with position := 40 } }
    (after (.restart 20 4) s).lead.position = 40 ∧ (after (.restart 20 4) s).mc.state = .unconfigured ∧
    (after (.restart 20 4) s).link.state = .active := by decide

theorem test_ready_completes_the_roll :
    (after (.readyTaken 3 2 1) armed).mc.state = .running ∧
    (after (.readyTaken 3 2 1) armed).roll.groups.all (fun e => e.roll.all fun r => r.tag.isNone) = true := by decide

theorem test_ready_mismatch :
    (after (.readyTaken 3 2 9) armed).mc.state = .held ∧
    (frames (after (.readyTaken 3 2 9) armed)).getLast? = some (.withdraw 2 1 .tagMismatch) := by decide

theorem test_withdraw_fails_the_announced_head :
    holdsCause (after (.withdrawTaken 7 2 1 .limitActive) armed).mc.causes .peerWithdrew = true ∧
    (frames (after (.withdrawTaken 7 2 1 .limitActive) armed)).length = 1 := by decide

/-- A completed roll at a node whose only WITHDRAW of the tag says SOFT_LIMIT: the entry is stale (R35, R107). -/
theorem test_stale_start_carries_link :
    let s := withFrames { held with roll := armed.roll } [entry (.withdraw 2 1 .softLimit) .queued 0]
    frames (after (.readyTaken 3 2 1) s) = [.withdraw 2 1 .softLimit, .halt 2 .now .link 1] := by decide

theorem test_halt_from_a_member_and_from_outside :
    (after (.haltTaken 3 2 .now .link none) idle).mc.causes = withCause 0 .peerHalt ∧
    (after (.haltTaken 20 2 .now .link none) idle).mc.causes = withCause 0 .stationStop := by decide

theorem test_mark_readies_the_head :
    (after (.markTaken 3 9 0 .reached) waiting).mc.state = .announcing ∧
    (after (.markTaken 3 9 1 .reached) waiting).gate.marks = [] := by decide

theorem test_mark_void_fails_the_head :
    (after (.markTaken 3 9 0 .void) waiting).mc.causes = withCause 0 .gateVoid := by decide

/-- A MARK that only a head names whose retirement is deferred is ignored (R57). -/
theorem test_mark_named_by_the_deferred_head_only :
    (after (.markTaken 3 9 0 .reached) (expired 3)).gate.marks = [] := by decide

theorem test_groupScale : (after (.groupScaleTaken 3 2 50) (running (some 2) 2 2 .hold)).lead.cap = some 250 := by decide

theorem test_beacon_of_an_unconfigured_peer :
    (after (.beaconTaken 3 .unconfigured 0) idle).roll.groups.map (·.state) = [.broken] ∧
    (after (.beaconTaken 3 .unconfigured 0) idle).peer.peers.map (·.presence) = [.unready, .present] := by decide

theorem test_replyFrame_restarts_the_silence_timer :
    let s := { idle with peer := { idle.peer with peers := [⟨3, .absent, none, none⟩] } }
    (after (.replyFrameTaken 3) s).peer.peers = [⟨3, .absent, none, some 100⟩] := by decide

/-- A FLUSH to node 5 of a length that no FLUSH has. -/
def longFlush : RawFrame :=
  RawFrame.sealed { cls := 2, source := 20, destKind := 0, destNum := 5, kind := 0x0B, len := 2, payload := [9, 9], check := 0 }

theorem test_malformed_request_is_answered :
    frames (after (.malformedFrameTaken longFlush) idle) = [.nak 20 9 0x0B .badFrame] := by decide +kernel

/-- READY(2, 71) from node 3: the manual's header and payload, 62 bit times, and the reading of the bits (10, R162). -/
theorem test_frame_bit_by_bit :
    let r := (OutFrame.ready 2 71).raw 3
    (RawFrame.onBus r SlotMarks.reject).length = 62 ∧
    ((RawFrame.onBus r SlotMarks.none).take 27).map BusLevel.bit =
      [false, false, true, false, false, false, true, true, false, true, false, false, false, false, true, false,
       false, false, false, false, true, false, false, false, false, true, false] ∧
    (RawFrame.onBus r SlotMarks.busy).drop 59 = [.recessive, .dominant, .recessive] ∧
    RawFrame.ofBus (RawFrame.onBus r SlotMarks.busy) = r := by decide +kernel

theorem test_failed_check_is_marked :
    (after (.malformedFrameTaken { longFlush with check := 0 }) idle).link.marks = SlotMarks.reject ∧
    frames (after (.malformedFrameTaken { longFlush with check := 0 }) idle) = [] := by decide +kernel

theorem test_rejected_frame_is_not_taken :
    after (.frameRejectedInSlot longFlush) held = { held with link := { held.link with idleCount := 0 } } := by decide +kernel

theorem test_own_ready_taken : (after .ownFrameTaken (announcing .inTransmission [])).mc.state = .armed := by decide

theorem test_lost_in_arbitration :
    (after .lostInArbitration (announcing .inTransmission [])).fq = (announcing .queued []).fq ∧
    (after .lostInArbitration (announcing .inTransmission [])).link.inFrame = true := by decide

theorem test_rejected_counts :
    (after (.rejected .ownCheck) (announcing .inTransmission [])).link.rejects = 1 ∧
    [RejectedBy.ownCheck, .dropOut true, .dropOut false, .otherParty].map
      (fun how => (after (.rejected how) (announcing .inTransmission [])).link.marks) =
      [SlotMarks.reject, SlotMarks.reject, SlotMarks.none, SlotMarks.none] := by decide

theorem test_discarded_ready :
    let s := thrice (announcing .inTransmission [])
    (after .discarded s).link.listenTimer = some 20 ∧ (after .discarded s).mc.causes = withCause 0 .link := by decide

/-- The fourth attempt fails this node's own check, and the node's CHECK-REJECT stands in its slot (08, second example). -/
theorem test_discarded_own_check :
    let s := thrice (withFrames held [entry (.mark 1 0 .reached) .inTransmission 0])
    (after (.discarded .ownCheck) s).link.marks = SlotMarks.reject ∧
    (after (.discarded .ownCheck) s).link.state = .listenOnly := by decide

theorem test_busy_counts :
    (after .refusedAsBusy (withFrames idle [entry (.ack 20 1 9 none) .inTransmission 14])).fq.entries =
      [entry (.ack 20 1 9 none) .queued 15] := by decide

theorem test_dropped_at_the_sixteenth :
    (after .dropped (withFrames idle [entry (.ack 20 1 9 none) .inTransmission 15])).fq.entries = [] := by decide

theorem test_busIdle_begins_the_lowest_class :
    (after .busIdle (withFrames idle [entry (.ack 20 1 9 none) .queued 0, entry (.mark 4 0 .void) .queued 0])).fq.entries =
      [entry (.ack 20 1 9 none) .queued 0, entry (.mark 4 0 .void) .inTransmission 0] := by decide

theorem test_leadStep_makes_a_pulse :
    (after .leadStep (running none 3 2 .hold)).lead.position = 1 ∧
    (after .leadStep (running none 3 2 .hold)).out.stepPulses = 1 ∧
    (after .leadStep (running none 2 2 .hold)).lead.position = 0 := by decide

theorem test_leadStep_completes :
    (after .leadStep (running none 9 1 .descent)).mc.state = .idle ∧
    (after .leadStep (running none 9 1 .descent)).lead.phase = .stopped := by decide

theorem test_rollTimeout : (after .rollTimeout armed).mc.causes = withCause 0 .rollTimeout := by decide

theorem test_gateWaitTimer : (after .gateWaitTimerExpires waiting).mc.causes = withCause 0 .gateTimeout := by decide

theorem test_silence_halts_the_move :
    (after (.silenceTimerExpires 3) (running (some 2) 2 2 .hold)).mc.state = .stopping ∧
    frames (after (.silenceTimerExpires 3) (running (some 2) 2 2 .hold)) = [.halt 2 .ramp .peerLost 1] := by decide

theorem test_beaconTimer_queues_a_beacon :
    frames (after .beaconTimerExpires held) = [.beacon .held 1] ∧ frames (after .beaconTimerExpires bare) = [] := by decide

theorem test_listenTimer_releases_the_notices :
    let s : State :=
      { held with
        link := { held.link with state := .listenOnly, listenTimer := some 20 }
        mc := { held.mc with notices := [{ group := 2, content := ⟨.now, .link, 1⟩, status := .deferred, upgrade := none }] } }
    (after .listenTimerExpires s).link.state = .active ∧ frames (after .listenTimerExpires s) = [.halt 2 .now .link 1] := by
  decide

theorem test_limit_ahead_and_behind :
    (after (.limitAsserted .positive) (running none 2 2 .hold)).mc.causes = withCause 0 .limit ∧
    (after (.limitAsserted .negative) (running none 2 2 .hold)).mc.state = .running := by decide

theorem test_dalm_cuts_the_drive :
    (after .dalmAsserted idle).out.dren = false ∧ (after .dalmAsserted idle).mc.causes = withCause 0 .driveAlarm := by decide

theorem test_stopin_ends_the_move :
    (after .stopinAsserted (stopping 3 2)).mc.causes = withCause (withCause 0 .stationStop) .stopInput := by decide

/-- A node RUNNING a SEEK. -/
def seeking : State :=
  { running none 2 2 .hold with
    mc := { idle.mc with state := .running, queue := [{ mv 1 none with kind := .seek, dist := 10 }] }
    lead := { (running none 2 2 .hold).lead with pulses := 2, acc := 0, position := 2 } }

theorem test_home_completes_the_seek :
    (after .homeAsserted seeking).lead.position = 0 ∧ (after .homeAsserted seeking).mc.state = .idle := by decide

theorem test_inactive_level_acts_on_nothing :
    (after (.inputChangeInactive .dalm) held).inp.dalm = { line := .high, filtered := .high, filtering := false } ∧
    (after (.inputChangeInactive .dalm) held).mc = held.mc := by decide

theorem test_reset_and_power_on :
    (after .resetAsserted (running none 2 2 .hold)).mc.state = .unconfigured ∧
    (after .resetAsserted held).link.state = .offline ∧ (after (.powerOn 9 1) held).link.addr = 9 := by decide

theorem test_line_change_restarts_the_filter :
    (after (.lineLevelChange .home .low) idle).inp.home = { line := .low, filtered := .unsettled, filtering := true } := by
  decide

theorem test_dominant_bit :
    (after .dominantBitOutsideFrame { idle with link := { idle.link with idleCount := 11 } }).link.idleCount = 0 ∧
    (after .dominantBitOutsideFrame (quiet idle)).link = { idle.link with idleCount := 0, inFrame := true } := by decide

/-- An entry queued within another party's frame waits for the next idle (R137). -/
theorem test_no_offer_within_a_frame :
    let s := after .beaconTimerExpires (after .dominantBitOutsideFrame (quiet idle))
    s.fq.entries = [entry (.beacon .idle 0) .queued 0] ∧ (after .busIdle s) = s := by decide

theorem test_step_runs_the_front_command :
    step { idle with pending := [.dalmAsserted, .busIdle] } = exec .dalmAsserted { idle with pending := [.busIdle] } := rfl

theorem test_no_word_spells_a_command : State.reset.withFetchWord 8 0 = State.reset := rfl

/-! ## Witnesses: states and operands that meet the hypotheses of each statement, clause by clause -/

/-- Another party's frame is taken here. -/
def hearsB (s : State) (src : Addr) : Bool :=
  decide (s.link.state ≠ .offline) && decide (src ≠ s.self) && decide (s.fq.sending = none) && decide (s.fq.reserved = false)

theorem hears_of_check {s : State} {src : Addr} (h : hearsB s src = true) : s.hears src := by
  simp only [hearsB, Bool.and_eq_true, decide_eq_true_eq] at h
  exact ⟨h.1.1.1, h.1.1.2, h.1.2, h.2⟩

theorem present_of_check {s : State} {src : Addr}
    (h : (hearsB s src && decide (∀ e ∈ s.peer.peers, e.addr = src → e.presence = .present)) = true) : s.hearsPresent src := by
  simp only [Bool.and_eq_true, decide_eq_true_eq] at h
  exact ⟨hears_of_check h.1, h.2⟩

/-- A frame that asks for a reply finds room. -/
def takesB (s : State) (src : Addr) : Bool :=
  decide (s.link.state ≠ .offline) && decide (src ≠ s.self) && decide (s.fq.sending = none) &&
  decide (2 ≤ s.fq.free ∨ s.fq.reserved = true)

theorem takes_of_check {s : State} {src : Addr} (h : takesB s src = true) : s.takesRequest src := by
  simp only [takesB, Bool.and_eq_true, decide_eq_true_eq] at h
  exact ⟨h.1.1.1, h.1.1.2, h.1.2, h.2⟩

/-- The commands that each state takes as requests, from the station and from the highest address. -/
theorem witness_takesRequest :
    ∀ s ∈ [bare, idle, waiting, held, announcing .queued [], armed, running (some 2) 2 2 .hold, running none 2 2 .hold,
           running (some 2) 0 0 .climb, stopping 3 2, slotted armed],
      s.takesRequest 1 ∧ s.takesRequest 30 := by
  intro s hs
  have h : takesB s 1 = true ∧ takesB s 30 = true := by revert s; decide
  exact ⟨takes_of_check h.1, takes_of_check h.2⟩

theorem witness_StepRunsFrontCommand : bare.pending = [] := rfl

theorem witness_ScurveRate : 4 ≤ 4 ∧ 0 ≤ 1 ∧ 16 ≤ 16 ∧ 1 ≤ 1 ∧ 1 ≤ 1 := by decide

/-- The manual's table: rates 100, 250, 400, 600 and counts 2, 3, 1, 0. -/
def table : List TableEntry := [⟨100, 2⟩, ⟨250, 3⟩, ⟨400, 1⟩, ⟨600, 0⟩]

theorem witness_TableRate :
    (([] : List TableEntry).map (·.count)).sum ≤ 0 ∧ 1 < 0 + 2 ∧ ((table.take 3).map (·.count)).sum ≤ 6 ∧
    table = ⟨100, 2⟩ :: table.drop 1 ∧ table = table.take 3 ++ [⟨600, 0⟩] := by decide

theorem witness_RatesNeverFall :
    (16 ≤ 16 ∧ 1 ≤ 1 ∧ 0 ≤ 1 ∧ 1 ≤ 1) ∧ table.take 3 ≠ [] ∧ (∀ e ∈ table.take 3, 1 ≤ e.count) ∧
    (table.take 3 ++ table.drop 3).Pairwise (fun e f => e.rate < f.rate) ∧
    6 ≤ (Slot.table ((table.take 3 ++ table.drop 3).map some)).rampLength := by decide

theorem witness_StepRule :
    9 < 10 ∧ (Slot.ramp .linear 100 500 4).rate 0 ≤ 100 ∧ 1 ≤ (Slot.ramp .linear 100 500 4).rampLength ∧ 1 ≤ 10 - 9 := by
  decide

theorem witness_PulsesSpreadEvenly :
    1 ≤ (mv 1 none).lead ∧ (mv 1 none).dist.natAbs ≤ (mv 1 none).lead ∧ (Lead.powerOn 0).acc = 0 ∧
    (Lead.powerOn 0).pulses = 0 ∧ (List.replicate 10 StepKind.hold).length = (mv 1 none).lead := by decide

/-- A node whose move in hand has two markers at its next step and `n` MARKs queued. -/
def marking (n : Nat) : State :=
  { withFrames (running none 2 2 .hold) ((List.range n).map fun i => entry (.mark 9 i .void) .queued 0) with
    gate := { marks := [], timer := none, held := some ⟨1, [⟨1, 3, some .mko1⟩, ⟨0, 3, some .mko0⟩]⟩ } }

theorem witness_LeadStepGoesOn :
    (let s := running none 8 1 .hold
     s.settled ∧ s.link.idleCount < 12 ∧ s.mc.state.moving = true ∧ s.mc.queue = [mv 1 none] ∧
     s.lead.step = some ⟨.hold, 100⟩ ∧ s.lead.p + 1 < (mv 1 none).lead ∧ s.gate.held = some ⟨1, []⟩ ∧
     s.lead.phase ≠ .descent) ∧
    (let s := stopping 3 2
     s.settled ∧ s.mc.state.moving = true ∧ s.mc.queue = [mv 1 (some 2)] ∧ s.lead.step = some ⟨.descent, 100⟩ ∧
     s.lead.phase = .descent ∧ stepClimb s.lead.c .descent ≠ 0 ∧ s.gate.held = some ⟨1, []⟩) ∧
    ((marking 4).settled ∧ (marking 4).fq.count .sync + 2 ≤ 6 ∧ (marking 5).settled ∧
      6 < (marking 5).fq.count .sync + 2 ∧ (marking 4).lead.p + 1 = 3 ∧ (marking 4).lead.step = some ⟨.hold, 100⟩) ∧
    ∀ es ∈ [[], [entry (.mark 9 0 .void) .queued 0]],
      (quiet (withFrames (running none 8 1 .hold) es)).settled ∧
      (quiet (withFrames (running none 8 1 .hold) es)).link.idleCount = 12 := by
  refine ⟨⟨settled_of_check (by decide), by decide⟩, ⟨settled_of_check (by decide), by decide⟩,
    ⟨settled_of_check (by decide), by decide, settled_of_check (by decide), by decide⟩,
    fun es hs => ⟨settled_of_check ?_, ?_⟩⟩ <;> revert es <;> decide

/-- A SEEK one step before the end of its lead. -/
def seekEnd : State :=
  { running none 9 1 .descent with
    mc := { idle.mc with state := .running, queue := [{ mv 1 none with kind := .seek, dist := 10 }] }
    lead := { (running none 9 1 .descent).lead with pulses := 9, acc := 0 } }

theorem witness_LeadStepEndsTheMove :
    (let s := running none 9 1 .descent
     s.ok ∧ s.mc.state.moving = true ∧ s.mc.queue = [mv 1 none] ∧ s.lead.step = some ⟨.descent, 100⟩ ∧
     s.mc.state ≠ .stopping ∧ s.lead.p + 1 = (mv 1 none).lead) ∧
    (seekEnd.ok ∧ seekEnd.lead.p + 1 = 10) ∧
    (let s := stopping 3 1
     s.ok ∧ s.mc.queue = [mv 1 (some 2)] ∧ s.mc.descentCause ≠ none ∧ s.lead.phase = .descent ∧
     stepClimb s.lead.c .descent = 0 ∧ s.lead.p + 1 < 10) :=
  ⟨⟨ok_of_check (by decide), by decide⟩, ⟨ok_of_check (by decide), by decide⟩, ⟨ok_of_check (by decide), by decide⟩⟩

theorem witness_MarkersReached :
    (marking 4).gate.held = some ⟨1, [⟨1, 3, some .mko1⟩, ⟨0, 3, some .mko0⟩]⟩ ∧ (marking 4).fq.count .sync + 2 ≤ 6 ∧
    6 < (marking 5).fq.count .sync + 2 ∧ (marking 5).fq.count .sync ≤ 6 := by decide

theorem witness_BusIdleBeginsTheOldestOfTheLowestClass :
    (withFrames held [entry (.beacon .idle 0) .inTransmission 0]).link.inFrame = true ∧
    State.reset.underReset.link.inReset = true ∧
    (∀ l ∈ [LinkState.listenOnly, .blocked], ({ held with link := { held.link with state := l } } : State).fq.sending = none) ∧
    (held.link.inReset = false ∧ held.link.inFrame = false ∧ held.fq.sending = none ∧ held.link.state = .active ∧
      ∀ e ∈ held.fq.entries, e.status ≠ .queued) ∧
    (let s := withFrames held [entry (.beacon .idle 0) .queued 0, entry (.mark 1 0 .void) .queued 0,
                               entry (.mark 1 1 .void) .queued 0]
     s.fq.sending = none ∧
     s.fq.entries = [entry (.beacon .idle 0) .queued 0] ++ entry (.mark 1 0 .void) .queued 0 ::
       [entry (.mark 1 1 .void) .queued 0] ∧
     classCode FrameClass.sync < classCode FrameClass.beacon) ∧
    (let s := State.powerOn 1 0 Inputs.reset []
     s.link.inReset = false ∧ s.link.inFrame = false ∧ s.fq.sending = none ∧ s.link.state = .offline ∧ 1 ≤ s.link.addr.toNat ∧
     s.link.addr.toNat ≤ 30 ∧ s.fq.entries = []) ∧
    (State.powerOn 31 0 Inputs.reset []).link.state = .offline ∧ (State.powerOn 31 0 Inputs.reset []).link.addr = 31 := by
  decide

/-- A node HELD whose HALT to group 2 is in transmission. -/
def halting : State :=
  { withFrames held [entry (.halt 2 .ramp .peerLost 1) .inTransmission 0] with
    mc := { held.mc with notices := [{ group := 2, content := ⟨.ramp, .peerLost, 1⟩, status := .offered, upgrade := none }] } }

/-- Its notice holds an upgrade of kind `k`. -/
def upgraded (k : HaltKind) : State :=
  { halting with mc := { halting.mc with notices := halting.mc.notices.map fun n =>
      { n with upgrade := some ⟨k, .driveAlarm, 1⟩ } } }

theorem witness_AttemptReturnsToQueued :
    (let s := announcing .inTransmission []
     s.settled ∧ s.fq.entries = [] ++ entry (.ready 2 1) .inTransmission 0 :: [] ∧ s.mc.kept = [] ∧
     (∀ n ∈ s.mc.notices, n.upgrade = none) ∧ s.link.rejects < 3) ∧
    (let s := withFrames { held with link := { held.link with rejects := 2 } } [entry (.mark 1 0 .void) .inTransmission 0]
     s.settled ∧ s.fq.entries = [] ++ entry (.mark 1 0 .void) .inTransmission 0 :: [] ∧ s.link.rejects < 3) ∧
    (let s := announcing .inTransmission [.limitActive, .rollTimeout]
     s.ok ∧ s.mc.queue = [mv 1 (some 2)] ∧ s.mc.kept = .limitActive :: [.rollTimeout] ∧ s.link.rejects < 3) ∧
    ((slotted droppedOut).settled ∧ (slotted droppedOut).fq.reserved = true ∧ droppedOut.fq.count .reply < 4 ∧
      droppedOut.fq.entries = [] ++ entry (.mark 1 0 .void) .inTransmission 0 :: droppedOut.fq.entries.drop 1) ∧
    (∀ k ∈ [HaltKind.ramp, .now], (upgraded k).ok ∧ (upgraded k).link.rejects < 3 ∧ (upgraded k).fq.reserved = false ∧
      (upgraded k).fq.entries = [] ++ entry (.halt 2 .ramp .peerLost 1) .inTransmission 0 :: [] ∧
      (upgraded k).noticeFor 2 =
        some { group := 2, content := ⟨.ramp, .peerLost, 1⟩, status := .offered, upgrade := some ⟨k, .driveAlarm, 1⟩ }) := by
  refine ⟨⟨settled_of_check (by decide), by decide⟩, ⟨settled_of_check (by decide), by decide⟩, ⟨kept_ok, by decide⟩,
    ⟨settled_of_check (by decide), by decide⟩, fun k hk => ⟨ok_of_check ?_, ?_⟩⟩ <;> revert k <;> decide

theorem witness_FourthRejectionDiscards :
    (let s := thrice (withFrames held [entry (.beacon .held 1) .inTransmission 0])
     s.ok ∧ s.link.rejects = 3 ∧ s.fq.entries = [] ++ entry (.beacon .held 1) .inTransmission 0 :: [] ∧
     s.mc.state ≠ .pending) ∧
    (let s := thrice (withFrames held [entry (.ack 20 1 9 none) .inTransmission 0])
     s.ok ∧ s.mc.record = none ∧ s.mc.state ≠ .pending) ∧
    (∀ w ∈ [(none, false), (some record, false), (some record, true)],
      (thrice (heldBack w.1 w.2)).ok ∧ (heldBack w.1 w.2).mc.state = .pending) ∧
    ((thrice (withFrames held [entry (.mark 1 0 .void) .inTransmission 0])).ok ∧ held.mc.state = .held) ∧
    ((thrice halting).ok ∧ halting.noticeFor 2 =
      some { group := 2, content := ⟨.ramp, .peerLost, 1⟩, status := .offered, upgrade := none } ∧ halting.mc.state = .held) ∧
    (let s := thrice (announcing .inTransmission [])
     s.ok ∧ s.mc.state = .announcing ∧ s.mc.queue = [mv 1 (some 2)] ∧ s.mc.kept = []) ∧
    ((thrice (announcing .inTransmission [.limitActive, .rollTimeout])).ok ∧
      (announcing .inTransmission [.limitActive, .rollTimeout]).mc.kept ≠ []) ∧
    ((thrice (slotted droppedOut)).ok ∧ (slotted droppedOut).fq.reserved = true) ∧
    (∀ x ∈ [idle, waiting, armed, running (some 2) 2 2 .hold, stopping 3 2],
      (thrice (withFrames x [entry (.mark 1 0 .void) .inTransmission 0])).ok) ∧
    (∀ x ∈ [idle, waiting, armed, running (some 2) 2 2 .hold, stopping 3 2],
      let y := withFrames x [entry (.halt 2 .ramp .peerLost 1) .inTransmission 0]
      (thrice { y with mc := { y.mc with notices := halting.mc.notices } }).ok) := by
  refine ⟨⟨ok_of_check (by decide), by decide⟩, ⟨ok_of_check (by decide), by decide⟩,
    fun w hw => ⟨ok_of_check ?_, rfl⟩, ⟨ok_of_check (by decide), by decide⟩,
    ⟨ok_of_check (by decide), by decide⟩, ⟨ok_of_check (by decide), by decide⟩, ⟨ok_of_check (by decide), by decide⟩,
    ⟨ok_of_check (by decide), by decide⟩, fun x hx => ok_of_check ?_, fun x hx => ok_of_check ?_⟩
  all_goals first | (revert w; decide) | (revert x; decide)

theorem witness_BusyAttemptsDropTheFrame :
    ((replying 14 none).settled ∧ (replying 14 none).mc.state ≠ .pending ∧
      (replying 14 none).fq.entries = [] ++ entry (.ack 20 1 9 none) .inTransmission 14 :: [] ∧ 14 + 1 < 16) ∧
    ((replying 15 none).settled ∧ (replying 15 none).mc.record = none) ∧
    ((slotted (replying 15 none)).settled ∧ (slotted (replying 15 none)).fq.reserved = true ∧
      (slotted (replying 15 none)).fq.count .reply < 4) ∧
    ((replying 15 (some record)).settled ∧ (replying 15 (some record)).mc.record = some record ∧
      (replying 15 (some record)).mc.deferredExpiry = false ∧ (replying 15 (some record)).fq.count .reply ≤ 4 ∧
      (replying 15 (some record)).fq.reserved = false) ∧
    (∀ n ∈ [0, 3], (expired n).settled ∧ (expired n).mc.record = some record ∧ (expired n).mc.deferredExpiry = true ∧
      (expired n).mc.state = .held ∧ (expired n).mc.queue = waiting.mc.queue ∧ (expired n).fq.count .reply = n + 1 ∧
      (expired n).fq.reserved = false) ∧
    (∀ w ∈ [(none, false), (some record, false), (some record, true)],
      (heldBack w.1 w.2).settled ∧ (heldBack w.1 w.2).mc.state = .pending ∧ (heldBack w.1 w.2).fq.count .reply = 4 ∧
      (heldBack w.1 w.2).mc.queue = [mv 1 (some 2)]) ∧
    (let s := withFrames held [entry (.mark 1 0 .void) .inTransmission 0]
     s.settled ∧ s.mc.state ≠ .pending ∧ (OutFrame.mark 1 0 .void).cls ≠ .reply) := by
  refine ⟨⟨settled_of_check (by decide), by decide⟩, ⟨settled_of_check (by decide), by decide⟩,
    ⟨settled_of_check (by decide), by decide⟩, ⟨settled_of_check (by decide), by decide⟩, fun n hn => ⟨settled_of_check ?_, ?_⟩, fun w hw => ⟨settled_of_check ?_, ?_⟩,
    ⟨settled_of_check (by decide), by decide⟩⟩
  all_goals first | (revert n; decide) | (revert w; decide)

/-- A node whose READY is in transmission while member 3 is ready and member 7's roll entry is `other`. -/
def meeting (kept : List Cause) (other : Option Nat) : State :=
  { announcing .inTransmission kept with
    roll := { groups := [{ number := 2, state := .whole, scale := 100,
                           roll := [⟨3, some 1⟩, ⟨5, none⟩, ⟨7, other⟩] }], timer := some 60 } }

/-- A HELD node that sends MARK(1, 0), a gate of its second entry naming that mark, recorded already or not. -/
def ownMark (marks : List MarkRecord) : State :=
  { withFrames held [entry (.mark 1 0 .void) .inTransmission 0] with
    mc := { held.mc with queue := [mv 2 none, { mv 3 none with gates := [⟨5, 1, 0⟩] }] }
    gate := { marks, timer := none, held := none } }

theorem witness_OwnFrameTaken_widened :
    (withFrames held [entry (.beacon .held 1) .inTransmission 0]).settled ∧
    ((slotted droppedOut).settled ∧ (slotted droppedOut).fq.reserved = true ∧ droppedOut.fq.count .reply < 4) ∧
    (∀ w ∈ [(none, false), (some record, false), (some record, true)],
      (heldBack w.1 w.2).settled ∧ (heldBack w.1 w.2).fq.count .reply ≤ 4 ∧ (heldBack w.1 w.2).fq.reserved = false) ∧
    (let s := withFrames held [entry (.withdraw 9 1 .limit) .inTransmission 0]
     s.settled ∧ s.groupEntry 9 = none) ∧
    (let s := withFrames held [entry (.withdraw 2 1 .limitActive) .inTransmission 0]
     let t := { s with roll := { s.roll with groups := s.roll.groups.map fun x : GroupEntry =>
       { x with roll := [⟨3, none⟩] } } }
     t.settled ∧ t.groupEntry 2 ≠ none ∧ ∀ e ∈ t.groupEntry 2, t.self ∉ e.members) ∧
    ((meeting [.rollTimeout, .driveAlarm, .limitActive] (some 1)).ok ∧
      (meeting [.rollTimeout, .driveAlarm, .limitActive] (some 1)).mc.kept.filter (fun x => decide (x ≠ .rollTimeout)) =
        .driveAlarm :: [.limitActive]) ∧
    (∀ marks ∈ [[], [⟨5, 1, 0, .reached⟩]], (ownMark marks).settled ∧
      ∃ m ∈ (ownMark marks).markNamers, ∃ y ∈ m.gates, y.source = (ownMark marks).self ∧ y.tag = 1 ∧ y.marker = 0) ∧
    (let s := { halting with mc := { halting.mc with notices :=
       [{ group := 2, content := ⟨.ramp, .peerLost, 1⟩, status := .offered, upgrade := some ⟨.now, .limit, 1⟩ }] } }
     s.settled ∧ s.noticeFor 2 ≠ none) ∧
    (let m := meeting [] (some 9)
     let marks := (List.range 5).map fun n => entry (.mark 9 n .void) .queued 0
     let s : State := { m with fq := { m.fq with entries := m.fq.entries ++ marks } }
     s.ok ∧ s.fq.count .sync = 6) := by
  refine ⟨settled_of_check (by decide), ⟨settled_of_check (by decide), by decide⟩,
    fun w hw => ⟨settled_of_check ?_, ?_⟩, ⟨settled_of_check (by decide), by decide⟩,
    ⟨settled_of_check (by decide), by decide⟩, ⟨ok_of_check (by decide), by decide⟩,
    fun ms hs => ⟨settled_of_check ?_, ?_⟩, ⟨settled_of_check (by decide), by decide⟩, ⟨ok_of_check (by decide), by decide⟩⟩
  all_goals first | (revert w; decide) | (revert ms; decide)

theorem witness_OwnFrameTakenLeavesTheQueue :
    ((replying 0 none).settled ∧ (replying 0 none).mc.state ≠ .pending ∧ (replying 0 none).mc.record = none) ∧
    (let s := withFrames held [entry (.withdraw 2 1 .limit) .inTransmission 0]
     s.settled ∧ s.groupEntry 2 ≠ none ∧ ∀ e ∈ s.groupEntry 2, s.self ∈ e.members) ∧
    (let s := withFrames held [entry (.mark 1 0 .void) .inTransmission 0]
     s.settled ∧ ∀ m ∈ s.unstarted, ∀ y ∈ m.gates, ¬(y.source = s.self ∧ y.tag = 1 ∧ y.marker = 0)) ∧
    (halting.settled ∧ halting.noticeFor 2 ≠ none ∧ ∀ n ∈ halting.noticeFor 2, n.upgrade = none) ∧
    (let s := announcing .inTransmission []
     s.settled ∧ s.mc.state = .announcing ∧ s.mc.queue = [mv 1 (some 2)] ∧ s.mc.kept = [] ∧ s.mc.record = none ∧
     s.groupEntry 2 ≠ none ∧ ∀ e ∈ s.groupEntry 2, s.self ∈ e.members ∧
       (∀ r ∈ e.roll, r.addr ≠ s.self → r.tag = none ∨ r.tag = some 1) ∧ ∃ r ∈ e.roll, r.addr ≠ s.self ∧ r.tag = none) ∧
    ((meeting [] (some 1)).ok ∧ (meeting [.rollTimeout] (some 1)).ok ∧
      (meeting [.rollTimeout] (some 1)).mc.kept = [.rollTimeout] ∧
      ∀ e ∈ (meeting [] (some 1)).groupEntry 2, ∀ r ∈ e.roll, r.addr ≠ 5 → r.tag = some 1) ∧
    ((meeting [.limitActive, .driveAlarm] (some 1)).ok ∧
      (meeting [.limitActive, .driveAlarm] (some 1)).mc.kept = .limitActive :: [.driveAlarm]) ∧
    ((meeting [.peerLost] none).ok ∧ (meeting [.peerLost] none).mc.kept = .peerLost :: [] ∧
      ∀ e ∈ (meeting [.peerLost] none).groupEntry 2, ∃ r ∈ e.roll, r.addr ≠ 5 ∧ r.tag ≠ some 1) ∧
    ((meeting [.stopInput] (some 9)).ok ∧
      ∀ e ∈ (meeting [.stopInput] (some 9)).groupEntry 2, ∃ r ∈ e.roll, r.addr ≠ 5 ∧ ∃ x ∈ r.tag, x ≠ 1) :=
  ⟨⟨settled_of_check (by decide), by decide⟩, ⟨settled_of_check (by decide), by decide⟩,
    ⟨settled_of_check (by decide), by decide⟩, ⟨settled_of_check (by decide), by decide⟩,
    ⟨settled_of_check (by decide), by decide⟩, ⟨ok_of_check (by decide), ok_of_check (by decide), by decide⟩,
    ⟨ok_of_check (by decide), by decide⟩, ⟨ok_of_check (by decide), by decide⟩, ⟨ok_of_check (by decide), by decide⟩⟩

theorem witness_RetirementOfTheHead :
    armed.mc.queue = [mv 1 (some 2)] ∧ 0 < armed.fq.free ∧ armed.fq.count .sync + 1 + 0 ≤ 6 ∧
    (marking 4).mc.queue = [mv 1 none] ∧ 0 < (marking 4).fq.free ∧ (marking 4).fq.count .sync + 0 + 2 ≤ 6 := by decide

theorem witness_ArmingChecks :
    (marking 5).fq.count .sync < 6 ∧
    (let s := withFrames waiting ((List.range 6).map fun n => entry (.mark 9 n .void) .queued 0)
     s.fq.count .sync = 6 ∧ s.mc.state = .pending) := by decide

theorem witness_LinkCauseByState :
    bare.mc.state = .unconfigured ∧ idle.mc.state = .idle ∧ waiting.mc.state = .pending ∧ held.mc.state = .held ∧
    armed.mc.state.announced = true ∧ armed.mc.kept = [] ∧ (stopping 3 2).mc.state.moving = true ∧
    (stopping 3 2).mc.queue = [mv 1 (some 2)] ∧ (stopping 3 2).lead.p ≠ (mv 1 (some 2)).lead := by decide

theorem witness_NoticesMerge :
    held.noticeFor 2 = none ∧
    (halting.mc.notices = [] ++ { group := 2, content := ⟨.ramp, .peerLost, 1⟩, status := .offered, upgrade := none } :: [] ∧
      halting.fq.haltSending 2 = true) ∧
    (let s := withFrames halting [entry (.halt 2 .ramp .peerLost 1) .queued 0]
     s.fq.haltSending 2 = false ∧ s.mc.notices.map (·.group) = [2]) ∧
    (let u : NoticeContent := ⟨.now, .driveAlarm, 1⟩
     let e : Notice := { group := 2, content := ⟨.ramp, .peerLost, 1⟩, status := .offered, upgrade := some u }
     let s : State := { halting with mc := { halting.mc with notices := [e] } }
     s.mc.notices = [] ++ e :: [] ∧ e.group = 2 ∧ e.upgrade = some u) := by decide

theorem witness_ConfigGroupStored : bare.takesRequest 20 ∧ idle.takesRequest 20 :=
  ⟨takes_of_check (by decide), takes_of_check (by decide)⟩

theorem witness_TablePartStored :
    bare.takesRequest 20 ∧ bare.store.committed = false ∧ idle.store.committed = true ∧
    (3 ≤ 3 ∧ 2 ≤ 32 ∧ 1 ≤ 28 ∧ 28 ≤ 32 ∧ 28 + 5 ≤ 32 + 1) ∧
    partOk 3 32 28 [(16, 1), (17, 4095), (18, 1), (19, 1), (200000, 0)] = true ∧
    partOk 3 32 29 [(16, 1), (17, 4095), (18, 1), (19, 1), (200000, 0)] = false ∧
    tableOk (tableAfter .empty 32 28 [(16, 1), (17, 4095), (18, 1), (19, 1), (200000, 0)]) = true :=
  ⟨takes_of_check (by decide), by decide⟩

theorem witness_OtherRecordsStored :
    bare.takesRequest 20 ∧ bare.store.committed = false ∧ idle.store.committed = true ∧
    (3 ≤ 3 ∧ 16 ≤ 16 ∧ 16 ≤ 200000 ∧ 16 ≤ 200000 ∧ 200000 ≤ 200000 ∧ 1 ≤ 65535 ∧ 65535 ≤ 65535) ∧
    ¬((2 = 0 ∨ 2 = 1) ∧ 16 ≤ 16) :=
  ⟨takes_of_check (by decide), by decide⟩

/-- Node 5 with a profile stored, not yet committed, and these intervals. -/
def stored (beacon loss : Nat) : State :=
  { bare with store := { idle.store with committed := false, timing := some { beacon, loss, roll := 0 } } }

theorem witness_CommitChecksAndBuilds :
    (held.takesRequest 20 ∧ held.mc.linkDue = false ∧ held.mc.state ≠ .unconfigured) ∧
    (bare.takesRequest 20 ∧ bare.mc.state = .unconfigured ∧
      ∀ k ∈ [0, 1, 2, 3], (bare.store.slots.get k).isDefined = false) ∧
    ((stored 6 11).takesRequest 20 ∧ (stored 6 11).mc.state = .unconfigured ∧
      ((stored 6 11).store.slots.get 0).isDefined = true ∧ 11 < 2 * 6) ∧
    ((stored 5 10).takesRequest 20 ∧ ((stored 5 10).store.slots.get 0).isDefined = true ∧ 2 * 5 ≤ 10) :=
  ⟨⟨takes_of_check (by decide), by decide⟩, ⟨takes_of_check (by decide), by decide⟩,
    ⟨takes_of_check (by decide), by decide⟩, ⟨takes_of_check (by decide), by decide⟩⟩

theorem witness_RestartReturnsToPowerOn :
    (armed.takesRequest 20 ∧ armed.mc.state ∈ [NodeState.announcing, .armed, .running, .stopping]) ∧
    (held.takesRequest 20 ∧ held.mc.state ∈ [NodeState.unconfigured, .idle, .pending, .held] ∧
      exec (.powerOn held.link.addr held.link.rate) held = .next (State.powerOn 5 2 held.inp [])) :=
  ⟨⟨takes_of_check (by decide), by decide⟩, ⟨takes_of_check (by decide), by decide, rfl⟩⟩

theorem witness_LoadChecksAndAppends :
    (bare.takesRequest 20 ∧ bare.settled ∧ bare.mc.state = .unconfigured) ∧
    (idle.takesRequest 20 ∧ idle.settled ∧ loadBadField { fields with tag := 0 } = true) ∧
    (held.takesRequest 20 ∧ held.settled ∧ held.mc.queue ≠ [] ∧ firstFailing (held.loadChecks fields (moveOf 20 fields)) = none) ∧
    (idle.mc.queue = [] ∧ firstFailing (idle.loadChecks fields (moveOf 20 fields)) = none ∧
      (idle.append (moveOf 20 fields)).readyFor (moveOf 20 fields) = false) :=
  ⟨⟨takes_of_check (by decide), settled_of_check (by decide), by decide⟩,
    ⟨takes_of_check (by decide), settled_of_check (by decide), by decide⟩,
    ⟨takes_of_check (by decide), settled_of_check (by decide), by decide⟩, by decide⟩

theorem witness_FlushEmptiesTheQueue : ∀ s ∈ [bare, waiting, armed], s.takesRequest 20 := by
  intro s hs
  exact takes_of_check (by revert s; decide)

/-- A node with a notice for group 2, its HALT of this kind queued. -/
def noticed (s : State) (k : HaltKind) : State :=
  { withFrames s [entry (.halt 2 k .driveAlarm 1) .queued 0] with
    mc := { s.mc with notices := [{ group := 2, content := ⟨k, .driveAlarm, 1⟩, status := .offered, upgrade := none }] } }

theorem witness_StopActsByState_own_notice :
    ∀ k ∈ [HaltKind.ramp, .now], ∀ s ∈ [armed, running (some 2) 0 0 .climb, running (some 2) 2 2 .hold, stopping 3 2],
      (noticed s k).takesRequest 20 ∧ (noticed s k).ok ∧ (noticed s k).noticeFor 2 ≠ none := by
  refine fun k hk s hs => ⟨takes_of_check ?_, ok_of_check ?_, ?_⟩ <;> revert s <;> revert k <;> decide

theorem witness_StopActsByState :
    (bare.takesRequest 20 ∧ bare.ok ∧ bare.mc.state = .unconfigured) ∧
    (idle.takesRequest 20 ∧ idle.ok ∧ idle.mc.state ≠ .unconfigured ∧ idle.mc.state = .idle ∧ 1 < 2 ∧ 1 ≤ 1) ∧
    (waiting.takesRequest 20 ∧ waiting.ok ∧ waiting.mc.state = .pending) ∧
    (held.takesRequest 20 ∧ held.ok ∧ held.mc.state = .held) ∧
    ((stopping 3 2).takesRequest 20 ∧ (stopping 3 2).ok ∧ (stopping 3 2).mc.state = .stopping) ∧
    (armed.takesRequest 20 ∧ armed.ok ∧ armed.mc.queue = [mv 1 (some 2)] ∧ armed.mc.state.announced = true) ∧
    (let s := running (some 2) 0 0 .climb
     s.takesRequest 20 ∧ s.ok ∧ s.mc.queue = [mv 1 (some 2)] ∧ s.mc.state = .running ∧ s.lead.c = 0) ∧
    (let s := running (some 2) 2 2 .hold
     s.takesRequest 20 ∧ s.ok ∧ s.mc.queue = [mv 1 (some 2)] ∧ s.mc.state = .running ∧ s.mc.state.moving = true ∧
     0 < s.lead.c) :=
  ⟨⟨takes_of_check (by decide), bare_ok, by decide⟩, ⟨takes_of_check (by decide), idle_ok, by decide⟩,
    ⟨takes_of_check (by decide), waiting_ok, by decide⟩, ⟨takes_of_check (by decide), held_ok, by decide⟩,
    ⟨takes_of_check (by decide), stopping_ok, by decide⟩, ⟨takes_of_check (by decide), armed_ok, by decide⟩,
    ⟨takes_of_check (by decide), flat_ok, by decide⟩, ⟨takes_of_check (by decide), running_ok, by decide⟩⟩

/-- A HELD node at which an input stands asserted. -/
def pressed (i : InputName) : State := held.register i .low

theorem witness_ResumeClearsTheHold :
    (idle.takesRequest 20 ∧ idle.settled ∧ idle.mc.state ≠ .held) ∧
    ((pressed .dalm).takesRequest 20 ∧ (pressed .dalm).settled ∧ (pressed .dalm).mc.state = .held ∧
      (pressed .dalm).asserted .dalm = true ∧ (pressed .stopin).asserted .stopin = true) ∧
    (held.takesRequest 20 ∧ held.settled ∧ held.mc.state = .held ∧ held.asserted .dalm = false ∧
      held.asserted .stopin = false ∧ holdsCause held.mc.causes .link = false) ∧
    (let s := { held with mc := { held.mc with queue := waiting.mc.queue } }
     s.takesRequest 20 ∧ s.settled ∧ ∀ m ∈ s.mc.queue.head?, s.readyFor m = false) :=
  ⟨⟨takes_of_check (by decide), settled_of_check (by decide), by decide⟩,
    ⟨takes_of_check (by decide), settled_of_check (by decide), by decide⟩,
    ⟨takes_of_check (by decide), settled_of_check (by decide), by decide⟩,
    ⟨takes_of_check (by decide), settled_of_check (by decide), by decide⟩⟩

theorem witness_SetposMovesThePlannedEnd :
    (armed.takesRequest 20 ∧ armed.mc.state ∉ [NodeState.idle, .pending, .held]) ∧
    (held.takesRequest 20 ∧ held.mc.state ∈ [NodeState.idle, .pending, .held]) :=
  ⟨⟨takes_of_check (by decide), by decide⟩, ⟨takes_of_check (by decide), by decide⟩⟩

theorem witness_CapAndSoloScale : (16 ≤ 16 ∧ 100 ≤ 100) ∧ (running none 2 2 .hold).takesRequest 20 :=
  ⟨by decide, takes_of_check (by decide)⟩

theorem witness_QueriesAnswer :
    armed.takesRequest 20 ∧ ¬(1 ≤ 63 ∧ 63 ≤ 62) ∧ (1 ≤ 62 ∧ 62 ≤ 62 ∧ 1 ≤ 30 ∧ 30 ≤ 30 ∧ armed.groupEntry 62 = none) ∧
    (1 ≤ 2 ∧ 2 ≤ 62 ∧ 1 ≤ 1 ∧ 1 ≤ 30 ∧ armed.groupEntry 2 ≠ none) ∧
    (let s := running (some 2) 2 2 .hold
     s.takesRequest 20 ∧ s.mc.queue = [mv 1 (some 2)] ∧ s.lead.pulses = 1 ∧ s.plannedEnd = some 4) ∧
    (idle.takesRequest 20 ∧ idle.mc.queue = [] ∧ idle.plannedEnd = some 0) :=
  ⟨takes_of_check (by decide), by decide, by decide, by decide, ⟨takes_of_check (by decide), by decide⟩,
    takes_of_check (by decide), by decide⟩

theorem witness_RequestsMeetTheBusyMark :
    (full idle).hears 20 ∧ (full idle).fq.free < 2 ∧
    (let s := withFrames idle ((List.range 3).map fun n => entry (.ack 20 n 9 none) .queued 0)
     s.hears 20 ∧ s.fq.free = 1) ∧
    (droppedOut.fq.sending ≠ none ∧ droppedOut.link.state ≠ .offline ∧ droppedOut.fq.free = 2) ∧
    State.reset.link.state = .offline ∧ (full idle).fq.reserved = false ∧
    (let s := withFrames armed ((List.range 2).map fun n => entry (.ack 20 n 9 none) .queued 0)
     s.takesRequest 20 ∧ s.fq.free = 2) ∧
    (let s := slotted (withFrames armed ((List.range 3).map fun n => entry (.ack 20 n 9 none) .queued 0))
     s.takesRequest 20 ∧ s.fq.free < 2) :=
  ⟨hears_of_check (by decide), by decide, ⟨hears_of_check (by decide), by decide⟩, by decide, by decide, by decide,
    ⟨takes_of_check (by decide), by decide⟩, ⟨takes_of_check (by decide), by decide⟩⟩

theorem witness_ReadyTaken :
    (armed.ok ∧ armed.hearsPresent 3 ∧ armed.hearsPresent 20 ∧ armed.groupEntry 9 = none ∧ armed.groupEntry 2 ≠ none ∧
      ∀ e ∈ armed.groupEntry 2, 20 ∉ e.members ∧ 3 ∈ e.members ∧ (∀ r ∈ e.roll, r.addr = 3 ∨ r.tag = some 1) ∧
        ¬ ∀ r ∈ e.roll, r.addr = 3 ∨ r.tag = some 9) ∧
    (idle.ok ∧ idle.hearsPresent 3 ∧ ∀ e ∈ idle.groupEntry 2, 3 ∈ e.members ∧ ¬ ∀ r ∈ e.roll, r.addr = 3 ∨ r.tag = some 1) ∧
    (let s := { held with roll := armed.roll }
     s.ok ∧ s.hearsPresent 3 ∧ s.mc.state.announced = false ∧
     ∀ e ∈ s.fq.entries, e.frame.isWithdrawOf 2 1 = false) ∧
    (∀ k ∈ [Cause.driveAlarm, .softLimit],
     let s := withFrames { held with roll := armed.roll } [entry (.withdraw 2 1 k) .queued 0]
     s.ok ∧ s.hearsPresent 3 ∧ s.mc.state.announced = false ∧ s.fq.entries = [] ++ entry (.withdraw 2 1 k) .queued 0 :: [] ∧
     ([Cause.softLimit, .range, .peerWithdrew, .gateVoid, .gateTimeout, .seekOverrun].all
       (fun x => decide (OutFrame.withdraw 2 1 k ≠ .withdraw 2 1 x)) = decide (k = .driveAlarm))) := by
  refine ⟨⟨armed_ok, present_of_check (by decide), present_of_check (by decide), by decide⟩,
    ⟨idle_ok, present_of_check (by decide), by decide⟩,
    ⟨ok_of_check (by decide), present_of_check (by decide), by decide⟩,
    fun k hk => ⟨ok_of_check ?_, present_of_check ?_, ?_⟩⟩ <;> revert k <;> decide

theorem witness_WithdrawTaken :
    (armed.ok ∧ armed.hearsPresent 7 ∧ armed.hearsPresent 20 ∧ armed.groupEntry 2 ≠ none ∧
      (∀ e ∈ armed.groupEntry 2, 20 ∉ e.members ∧ 7 ∈ e.members) ∧ armed.mc.queue.head? = some (mv 1 (some 2)) ∧
      armed.mc.state.announced = true) ∧
    (let s := running (some 2) 2 2 .hold
     s.ok ∧ s.hearsPresent 7 ∧ s.mc.state.moving = true ∧ s.groupEntry 2 ≠ none ∧ s.mc.queue.head? = some (mv 1 (some 2))) ∧
    (held.ok ∧ held.hearsPresent 7 ∧ held.groupEntry 2 ≠ none ∧ held.groupEntry 9 = none ∧ held.mc.state ≠ .pending) :=
  ⟨⟨armed_ok, present_of_check (by decide), present_of_check (by decide), by decide⟩,
    ⟨running_ok, present_of_check (by decide), by decide⟩, ⟨held_ok, present_of_check (by decide), by decide⟩⟩

theorem witness_HaltTaken_own_notice :
    ∀ k ∈ [HaltKind.ramp, .now], ∀ s ∈ [idle, waiting, held, stopping 3 2, running (some 2) 2 2 .hold, running none 2 2 .hold],
      (noticed s k).ok ∧ (noticed s k).hearsPresent 3 ∧ (noticed s k).noticeFor 2 ≠ none := by
  refine fun k hk s hs => ⟨ok_of_check ?_, present_of_check ?_, ?_⟩ <;> revert s <;> revert k <;> decide

/-- This node is a member of group 4 with node 3 too. -/
def grouped (s : State) : State :=
  { s with roll := { s.roll with groups := s.roll.groups ++
      [{ number := 4, state := .whole, scale := 100, roll := [⟨3, none⟩, ⟨5, none⟩] }] } }

theorem witness_HaltTaken :
    (idle.ok ∧ idle.hearsPresent 3 ∧ idle.groupEntry 9 = none ∧ idle.groupEntry 2 ≠ none ∧ idle.noticeFor 2 = none) ∧
    (waiting.ok ∧ waiting.hearsPresent 3 ∧ waiting.mc.state = .pending ∧ waiting.noticeFor 2 = none) ∧
    (held.ok ∧ held.hearsPresent 20 ∧ held.mc.state = .held ∧ held.noticeFor 2 = none) ∧
    (let s := withFrames halting [entry (.halt 2 .ramp .peerLost 1) .queued 0]
     s.ok ∧ s.hearsPresent 3 ∧ s.mc.state = .held ∧ ∃ n ∈ s.mc.notices, n.group = 2 ∧ n.content.kind = .ramp) ∧
    (let s : State := { withFrames held [entry (.halt 2 .now .driveAlarm 1) .queued 0] with
       mc := { held.mc with notices := [{ group := 2, content := ⟨.now, .driveAlarm, 1⟩, status := .offered, upgrade := none }] } }
     s.ok ∧ s.hearsPresent 3 ∧ s.mc.state = .held ∧ ∃ n ∈ s.mc.notices, n.group = 2 ∧ n.content.kind = .now) ∧
    (let s := running none 2 2 .hold
     s.ok ∧ s.hearsPresent 3 ∧ s.mc.queue = [mv 1 none] ∧ s.mc.state.moving = true ∧ (mv 1 none).group ≠ some 2) ∧
    ((stopping 3 2).ok ∧ (stopping 3 2).hearsPresent 3 ∧ (stopping 3 2).mc.state = .stopping) ∧
    (let s := running (some 2) 2 2 .hold
     s.ok ∧ s.hearsPresent 3 ∧ s.mc.state = .running ∧ 0 < s.lead.c) ∧
    (armed.ok ∧ armed.hearsPresent 3 ∧ armed.mc.state.announced = true) ∧
    (∀ x ∈ [armed, announcing .queued []], (grouped x).ok ∧ (grouped x).hearsPresent 3 ∧ (grouped x).groupEntry 4 ≠ none ∧
      (grouped x).mc.queue = [mv 1 (some 2)] ∧ (grouped x).mc.state.announced = true ∧ (grouped x).fq.count .sync < 6) := by
  refine
  ⟨⟨idle_ok, present_of_check (by decide), by decide⟩, ⟨waiting_ok, present_of_check (by decide), by decide⟩,
    ⟨held_ok, present_of_check (by decide), by decide⟩,
    ⟨ok_of_check (by decide), present_of_check (by decide), by decide⟩,
    ⟨ok_of_check (by decide), present_of_check (by decide), by decide⟩,
    ⟨ok_of_check (by decide), present_of_check (by decide), by decide⟩,
    ⟨stopping_ok, present_of_check (by decide), by decide⟩, ⟨running_ok, present_of_check (by decide), by decide⟩,
    ⟨armed_ok, present_of_check (by decide), by decide⟩, fun x hx => ⟨ok_of_check ?_, present_of_check ?_, ?_⟩⟩ <;>
    revert x <;> decide

theorem witness_MarkTaken :
    (idle.hearsPresent 3 ∧ idle.settled ∧ ∀ m ∈ idle.mc.queue, m.gates = []) ∧
    (waiting.hearsPresent 3 ∧ waiting.settled ∧ waiting.gate.marks = [] ∧
      ∃ m ∈ waiting.mc.queue, ∃ g ∈ m.gates, g.source = 3 ∧ g.tag = 9 ∧ g.marker = 0) ∧
    (let s := { held with mc := { held.mc with queue := waiting.mc.queue } }
     s.hearsPresent 3 ∧ s.settled ∧ s.mc.state ≠ .pending) ∧
    (let s : State := { waiting with mc := { waiting.mc with state := .held, causes := 1, deferredExpiry := true
                                                             queue := waiting.mc.queue ++ waiting.mc.queue } }
     s.hearsPresent 3 ∧ s.settled ∧ ∃ m ∈ s.unstarted.tail, ∃ g ∈ m.gates, g.source = 3 ∧ g.tag = 9 ∧ g.marker = 0) :=
  ⟨⟨present_of_check (by decide), settled_of_check (by decide), by decide⟩,
    ⟨present_of_check (by decide), settled_of_check (by decide), by decide⟩,
    ⟨present_of_check (by decide), settled_of_check (by decide), by decide⟩,
    ⟨present_of_check (by decide), settled_of_check (by decide), by decide⟩⟩

theorem witness_GroupScaleTaken :
    idle.hears 20 ∧ ¬(5 ≤ 4 ∧ 4 ≤ 100) ∧ ¬(5 ≤ 101 ∧ 101 ≤ 100) ∧ idle.groupEntry 9 = none ∧ 5 ≤ 5 ∧ 100 ≤ 100 ∧
    idle.groupEntry 2 ≠ none := ⟨hears_of_check (by decide), by decide⟩

/-- Node 5 with peer 3 of this presence, its silence timer stopped or running. -/
def peered (q : Presence) (timer : Option Nat) : State :=
  { idle with peer := { idle.peer with peers := [⟨3, q, none, timer⟩, ⟨7, .present, none, none⟩] } }

/-- The group 2 of a head breaks with the loss of peer 3. -/
theorem breaks_of_check {s : State} (h : s.headGroup = some 2)
    (hg : (s.groupEntry 2).any (fun x => decide (3 ∈ x.members) && decide (x.state = .whole)) = true) :
    s.headGroupBreaks 3 := by
  cases hx : s.groupEntry 2 with
  | none => simp [hx] at hg
  | some x => exact ⟨2, x, h, hx, by simpa [hx] using hg⟩

theorem witness_BeaconAndReplyFramesHeard :
    (idle.hears 3 ∧ idle.settled ∧ ∀ e ∈ idle.peer.peers, e.addr = 3 → e.presence = .present) ∧
    (∀ q ∈ [Presence.absent, .unready, .unseen],
      (peered q none).hears 3 ∧ (peered q none).settled ∧ (peered q none).peerEntry 3 = some ⟨3, q, none, none⟩ ∧
      ((peered q none).peer.peers.map (·.addr)).Nodup ∧ ((peered q none).roll.groups.map (·.number)).Nodup) ∧
    (idle.ok ∧ idle.peerEntry 3 = some ⟨3, .present, some .idle, some 100⟩ ∧ ¬idle.headGroupBreaks 3) ∧
    (held.ok ∧ held.headGroupBreaks 3 ∧ held.mc.state ≠ .running ∧ held.mc.state.announced = false) ∧
    (∀ c ∈ [0, 2], (running (some 2) 2 c .hold).ok ∧ (running (some 2) 2 c .hold).hears 3 ∧
      (running (some 2) 2 c .hold).mc.queue = [mv 1 (some 2)] ∧ (running (some 2) 2 c .hold).headGroupBreaks 3 ∧
      (running (some 2) 2 c .hold).mc.state = .running ∧ (running (some 2) 2 c .hold).lead.c = c) ∧
    (armed.ok ∧ armed.hears 3 ∧ armed.headGroupBreaks 3 ∧ armed.mc.state.announced = true) := by
  refine ⟨⟨hears_of_check (by decide), settled_of_check (by decide), by decide⟩,
    fun q hq => ⟨hears_of_check ?_, settled_of_check ?_, ?_⟩,
    ⟨idle_ok, by decide, fun ⟨g, _, h, _⟩ => by cases h⟩, ⟨held_ok, breaks_of_check rfl (by decide), by decide⟩,
    fun c hc => ⟨ok_of_check ?_, hears_of_check ?_, ?_, ?_, ?_⟩,
    ⟨armed_ok, hears_of_check (by decide), breaks_of_check rfl (by decide), rfl⟩⟩
  all_goals first | (revert q; decide) | (revert c; decide) | exact breaks_of_check rfl (by revert c; decide)

theorem witness_SilenceMakesAPeerAbsent :
    ((peered .absent none).ok ∧ (peered .absent none).peerEntry 3 = some ⟨3, .absent, none, none⟩) ∧
    (∀ q ∈ [Presence.unready, .absent, .unseen], (peered q (some 100)).ok ∧
      (peered q (some 100)).peerEntry 3 = some ⟨3, q, none, some 100⟩) ∧
    (idle.ok ∧ idle.peerEntry 3 = some ⟨3, .present, some .idle, some 100⟩ ∧ ¬idle.headGroupBreaks 3) ∧
    (held.ok ∧ held.headGroupBreaks 3 ∧ held.mc.state = .held) ∧
    ((announcing .inTransmission []).ok ∧ (announcing .inTransmission []).headGroupBreaks 3 ∧
      (announcing .inTransmission []).fq.readySending = true) ∧
    ((running (some 2) 2 2 .hold).ok ∧ (running (some 2) 2 2 .hold).headGroupBreaks 3 ∧
      (running (some 2) 2 2 .hold).mc.queue = [mv 1 (some 2)] ∧ 0 < (running (some 2) 2 2 .hold).lead.c) ∧
    ((running (some 2) 0 0 .climb).ok ∧ (running (some 2) 0 0 .climb).headGroupBreaks 3 ∧
      (running (some 2) 0 0 .climb).lead.c = 0) ∧
    (armed.ok ∧ armed.headGroupBreaks 3 ∧ armed.mc.state = .armed) ∧
    ((announcing .queued []).ok ∧ (announcing .queued []).headGroupBreaks 3 ∧
      (announcing .queued []).fq.readySending = false) := by
  refine ⟨⟨ok_of_check (by decide), by decide⟩, fun q hq => ⟨ok_of_check ?_, ?_⟩,
    ⟨idle_ok, by decide, fun ⟨g, _, h, _⟩ => by cases h⟩, ⟨held_ok, breaks_of_check rfl (by decide), rfl⟩,
    ⟨sending_ok, breaks_of_check rfl (by decide), by decide⟩, ⟨running_ok, breaks_of_check rfl (by decide), by decide⟩,
    ⟨flat_ok, breaks_of_check rfl (by decide), by decide⟩, ⟨armed_ok, breaks_of_check rfl (by decide), rfl⟩,
    ⟨announcing_ok, breaks_of_check rfl (by decide), by decide⟩⟩ <;> revert q <;> decide

theorem witness_MalformedFrameAnswered :
    (idle.hears longFlush.source.toNat ∧ RawFrame.checkPasses longFlush = true ∧ RawFrame.malformedCase longFlush = some 5 ∧
      RawFrame.asksReply longFlush idle.self = true ∧ 2 ≤ idle.fq.free ∧ idle.fq.reserved = false) ∧
    (let r := RawFrame.sealed { longFlush with source := 31 }
     (slotted idle).takesRequest r.source.toNat ∧ idle.takesRequest r.source.toNat ∧ idle.ok ∧
     (slotted idle).ok ∧ idle.mc.record = none ∧ RawFrame.checkPasses r = true ∧
     RawFrame.malformedCase r = some 1 ∧ RawFrame.asksReply r idle.self = true) ∧
    [{ longFlush with destNum := 31 }, { longFlush with kind := 7 }, { longFlush with kind := 1 }, longFlush,
     { (OutFrame.ready 2 3).raw 4 with payload := [0, 0] }, { longFlush with payload := [9] }].map RawFrame.malformedCase =
      [some 2, some 3, some 4, some 5, some 6, none] ∧
    (let r := RawFrame.sealed { longFlush with destNum := 6 }
     idle.hears r.source.toNat ∧ RawFrame.checkPasses r = true ∧ RawFrame.malformedCase r = some 5 ∧
     RawFrame.asksReply r idle.self = false) ∧
    (let r := (OutFrame.ready 2 3).raw 3
     idle.hears r.source.toNat ∧ RawFrame.checkPasses r = true ∧ RawFrame.read r idle.self = .command (.readyTaken 3 2 3)) ∧
    RawFrame.checkPasses { longFlush with check := 0 } = false ∧
    ([{ longFlush with kind := 0x08, payload := [9, 0] }, { longFlush with kind := 0x08, payload := [9, 6] },
      { longFlush with kind := 0x0F, payload := [9, 3] }].map fun r =>
        let x := RawFrame.sealed r
        (RawFrame.checkPasses x, RawFrame.malformedCase x, RawFrame.asksReply x 5, x.source.toNat)) =
      List.replicate 3 (true, none, true, 20) ∧
    idle.takesRequest 20 ∧ bare.takesRequest 20 :=
  ⟨⟨hears_of_check (by decide), by decide +kernel⟩,
    ⟨takes_of_check (by decide +kernel), takes_of_check (by decide +kernel), idle_ok, ok_of_check (by decide),
      by decide +kernel⟩,
    by decide +kernel, ⟨hears_of_check (by decide +kernel), by decide +kernel⟩,
    ⟨hears_of_check (by decide +kernel), by decide +kernel⟩, by decide +kernel, by decide +kernel,
    takes_of_check (by decide +kernel), takes_of_check (by decide +kernel)⟩

theorem witness_FrameRejectedInItsSlot :
    (let s := slotted waiting
     s.settled ∧ s.mc.record = none ∧ s.fq.reserved = true ∧ s.mc.state = .pending ∧ s.link.state ≠ .offline ∧
     s.fq.sending = none ∧ s.fq.count .reply < 4) ∧
    (let s := slotted { held with mc := { held.mc with record := some record } }
     s.settled ∧ s.mc.record ≠ none ∧ s.fq.reserved = true ∧ s.fq.sending = none ∧ s.fq.count .reply < 4) ∧
    (let r := { longFlush with source := 5 }
     droppedOut.settled ∧ r.source.toNat = droppedOut.self ∧ droppedOut.fq.sending ≠ none ∧
     RawFrame.checkPasses r = false) ∧
    (held.settled ∧ held.mc.record = none ∧ held.fq.reserved = false ∧ held.hears longFlush.source.toNat) ∧
    (State.reset.settled ∧ State.reset.link.state = .offline ∧ State.reset.mc.record = none) :=
  ⟨⟨settled_of_check (by decide), by decide⟩, ⟨settled_of_check (by decide), by decide⟩,
    ⟨settled_of_check (by decide), by decide +kernel⟩, ⟨settled_of_check (by decide), by decide, by decide, hears_of_check (by decide)⟩,
    ⟨settled_of_check (by decide), by decide⟩⟩

theorem witness_AddressClashBlocksTheLink :
    held.link.state ≠ .offline ∧ held.fq.sending = none ∧ 2 ≤ held.fq.free ∧ held.fq.reserved = false ∧ held.settled ∧ held.mc.state = .held ∧
    (∀ s ∈ [droppedOut, slotted droppedOut], s.ok ∧ (2 ≤ s.fq.free ∨ s.fq.reserved = true) ∧
      s.fq.entries = [] ++ entry (.mark 1 0 .void) .inTransmission 0 :: s.fq.entries.drop 1) := by
  refine ⟨by decide, by decide, by decide, rfl, settled_of_check (by decide), by decide, fun s hs => ⟨ok_of_check ?_, ?_⟩⟩ <;>
    revert s <;> decide

/-- A node ANNOUNCING with the SYNC share full, its READY in it. -/
def crowded : State :=
  let s := announcing .queued []
  withFrames s (s.fq.entries ++ (List.range 5).map fun n => entry (.mark 9 n .void) .queued 0)

theorem witness_RollAndGateTimersExpire :
    (held.ok ∧ held.roll.timer = none ∧ held.gate.timer = none) ∧
    (let s := announcing .inTransmission []
     s.ok ∧ s.roll.timer ≠ none ∧ s.mc.state = .announcing ∧ s.fq.readySending = true) ∧
    (armed.ok ∧ armed.mc.queue = [mv 1 (some 2)] ∧ armed.roll.timer ≠ none ∧ armed.mc.state = .armed ∧ armed.withdrawFits) ∧
    (crowded.ok ∧ crowded.roll.timer ≠ none ∧ crowded.mc.state = .announcing ∧ crowded.fq.readySending = false ∧
      crowded.fq.count .sync = 6 ∧ crowded.withdrawFits) ∧
    (let s := { full waiting with mc := { waiting.mc with record := some record } }
     s.ok ∧ s.gate.timer ≠ none ∧ s.mc.record ≠ none) ∧
    (waiting.ok ∧ waiting.gate.timer ≠ none ∧ waiting.mc.record = none ∧ 0 < waiting.fq.free ∧
      waiting.fq.count .sync < 6) ∧
    ((full waiting).ok ∧ (full waiting).gate.timer ≠ none ∧ (full waiting).mc.record = none ∧
      (full waiting).fq.free = 0) :=
  ⟨⟨held_ok, by decide⟩, ⟨sending_ok, by decide⟩, ⟨armed_ok, by decide, by decide, by decide, .inl (by decide)⟩,
    ⟨ok_of_check (by decide), by decide, by decide, by decide, by decide, .inr (by decide)⟩,
    ⟨ok_of_check (by decide), by decide⟩, ⟨waiting_ok, by decide⟩, ⟨ok_of_check (by decide), by decide⟩⟩

theorem witness_BeaconAndListenTimersExpire :
    bare.peer.beaconTimer = none ∧
    (held.peer.beaconTimer = some 20 ∧ held.link.state = .active ∧ held.fq.entries = [] ∧ held.link.idleCount ≠ 12) ∧
    (full held).fq.entries ≠ [] ∧ (quiet held).link.idleCount = 12 ∧
    held.link.listenTimer = none ∧
    (let s := { held with link := { held.link with state := .listenOnly, listenTimer := some 20 } }
     s.link.listenTimer = some 20 ∧ s.settled ∧ (∀ n ∈ s.mc.notices, n.status ≠ .deferred) ∧ s.fq.entries = []) :=
  ⟨by decide, by decide, by decide, by decide, by decide, by decide, settled_of_check (by decide), by decide⟩

theorem witness_LimitAsserted :
    (State.reset.underReset.ok ∧ State.reset.underReset.link.inReset = true) ∧
    ((pressed .limp).ok ∧ (pressed .limp).link.inReset = false ∧ (pressed .limp).asserted .limp = true) ∧
    (idle.ok ∧ idle.mc.queue.head? = none) ∧ (held.ok ∧ held.mc.state.announced = false ∧ held.mc.state.moving = false) ∧
    (let s := announcing .inTransmission []
     s.ok ∧ s.asserted .limp = false ∧ s.mc.queue = [mv 1 (some 2)] ∧ 0 < (mv 1 (some 2)).dist ∧
     s.mc.state = .announcing ∧ s.fq.readySending = true) ∧
    (let s := running (some 2) 2 2 .hold
     s.ok ∧ s.asserted .limp = false ∧ s.mc.state.moving = true) ∧
    (armed.ok ∧ armed.asserted .limp = false ∧ armed.mc.state = .armed ∧ armed.withdrawFits ∧
      armed.fq.readySending = false) ∧
    (let s := { armed with mc := { armed.mc with queue := [{ mv 1 (some 2) with dist := -1 }] } }
     s.ok ∧ s.asserted .limn = false) :=
  ⟨⟨ok_of_check (by decide), by decide⟩, ⟨ok_of_check (by decide), by decide⟩, ⟨idle_ok, by decide⟩, ⟨held_ok, by decide⟩,
    ⟨sending_ok, by decide⟩, ⟨running_ok, by decide⟩, ⟨armed_ok, by decide, by decide, .inl (by decide), by decide⟩,
    ⟨ok_of_check (by decide), by decide⟩⟩

theorem witness_DriveAlarmAndStopInputAsserted :
    (bare.ok ∧ bare.link.inReset = false ∧ bare.mc.state = .unconfigured) ∧
    ((pressed .dalm).ok ∧ (pressed .dalm).asserted .dalm = true) ∧
    (idle.ok ∧ idle.asserted .dalm = false ∧ idle.asserted .stopin = false ∧ idle.mc.state = .idle) ∧
    (waiting.ok ∧ waiting.asserted .dalm = false ∧ waiting.mc.state = .pending) ∧
    (held.ok ∧ held.asserted .stopin = false ∧ held.mc.state = .held) ∧
    (let s := announcing .inTransmission []
     s.ok ∧ s.asserted .dalm = false ∧ s.mc.state = .announcing ∧ s.fq.readySending = true) ∧
    ((stopping 3 2).ok ∧ (stopping 3 2).asserted .dalm = false ∧ (stopping 3 2).mc.state.moving = true) ∧
    (armed.ok ∧ armed.asserted .stopin = false ∧ armed.mc.state = .armed) :=
  ⟨⟨bare_ok, by decide⟩, ⟨ok_of_check (by decide), by decide⟩, ⟨idle_ok, by decide⟩, ⟨waiting_ok, by decide⟩,
    ⟨held_ok, by decide⟩, ⟨sending_ok, by decide⟩, ⟨stopping_ok, by decide⟩, ⟨armed_ok, by decide⟩⟩

theorem witness_HomeCompletesASeek :
    (held.ok ∧ held.link.inReset = false ∧ held.mc.state.moving = false) ∧
    ((running none 2 2 .hold).ok ∧ ∀ m ∈ (running none 2 2 .hold).mc.queue.head?, m.kind ≠ .seek) ∧
    ((pressed .home).ok ∧ (pressed .home).asserted .home = true) ∧
    (seeking.ok ∧ seeking.link.inReset = false ∧ seeking.asserted .home = false ∧ seeking.mc.state.moving = true ∧
      seeking.mc.queue = [{ mv 1 none with kind := .seek, dist := 10 }] ∧ seeking.gate.held = some ⟨1, []⟩) ∧
    (let s := { seeking with gate := (marking 0).gate }
     s.ok ∧ s.gate.held = some ⟨1, [⟨1, 3, some .mko1⟩, ⟨0, 3, some .mko0⟩]⟩ ∧ s.fq.count .sync + 2 ≤ 6) :=
  ⟨⟨held_ok, by decide⟩, ⟨ok_of_check (by decide), by decide⟩, ⟨ok_of_check (by decide), by decide⟩,
    ⟨ok_of_check (by decide), by decide⟩, ⟨ok_of_check (by decide), by decide⟩⟩

theorem witness_InputLevelsAndIdleCount :
    idle.link.inReset = false ∧ (idle.inp.get .home).line ≠ .low ∧ (idle.inp.get .home).line = .high ∧
    ({ idle with link := { idle.link with idleCount := 11 } } : State).link.idleCount < 12 ∧ idle.link.inFrame = false ∧
    (quiet idle).link.idleCount = 12 ∧ (quiet idle).link.inFrame = false ∧
    (after .dominantBitOutsideFrame (quiet idle)).link.inFrame = true := by decide

/-- One state for the premise of each invariant statement, and a command that answers from it. -/
theorem witness_invariants_kept :
    ∃ t, (running (some 2) 2 2 .hold).ok ∧ exec .leadStep (running (some 2) 2 2 .hold) = .next t :=
  ⟨_, running_ok, rfl⟩

theorem witness_SharesKept : ∃ t, held.ok ∧ exec (.flush 20 1) held = .next t := ⟨_, held_ok, rfl⟩

theorem witness_ListsKept : ∃ t, waiting.ok ∧ exec (.markTaken 3 9 0 .reached) waiting = .next t := ⟨_, waiting_ok, rfl⟩

theorem witness_LeadKept : ∃ t, (stopping 3 2).ok ∧ exec .leadStep (stopping 3 2) = .next t := ⟨_, stopping_ok, rfl⟩

theorem witness_CausesAndRoomKept : ∃ t, armed.ok ∧ exec (.readyTaken 3 2 1) armed = .next t := ⟨_, armed_ok, rfl⟩

/-- A HELD node with the link BLOCKED. -/
def blocked : State := { held with link := { held.link with state := .blocked } }

theorem witness_ConfigurationAndLinkKept :
    ∃ t, blocked.ok ∧ exec (.restart 20 1) blocked = .next t ∧ blocked.link.state = .blocked :=
  ⟨_, ok_of_check (by decide), rfl, rfl⟩

theorem witness_EventsEndSettled : ∃ t, held.settled ∧ exec (.resume 20 1) held = .next t :=
  ⟨_, settled_of_check (by decide), rfl⟩

theorem witness_SentFramesReadBack :
    (OutFrame.raw 3 (.ready 2 71)).payload.length = min (OutFrame.raw 3 (.ready 2 71)).len.toNat 32 ∧
    droppedOut.fq.sending = some (entry (.mark 1 0 .void) .inTransmission 0) ∧
    (1 ≤ 1 ∧ 30 ≤ 30) ∧ (1 ≤ 1 ∧ 62 ≤ 62 ∧ 65535 ≤ 65535) ∧ 1 ≤ 1 ∧ 16 ≤ 16 ∧
    (List.replicate 6 (⟨3, none, .absent, none⟩ : MemberLine)).length ≤ 6 := by decide

end Sys2Proof.Tests
end

section
/-! SUPPORT. The Frame Queue seen by the invariants: how many entries of a class it holds, how many REPLY entries are free,
which entries are in transmission and which READYs stand in it, after each of its operations (R150 to R156). -/

-- One proof after another: elaborated side by side they need more threads than the check allows.
set_option deprecated.oldSectionVars true

namespace Sys2Proof.Machine

/-- The entries in transmission (R137). -/
def FrameQueue.inFlight (q : FrameQueue) : List Entry := q.entries.filter fun e => decide (e.status = .inTransmission)

/-- The READYs of the queue, oldest first (R32). -/
def FrameQueue.readies (q : FrameQueue) : List OutFrame := (q.entries.map (·.frame)).filter OutFrame.isReady

/-! ## Counting -/

/-- The free count depends on the REPLY entries and the reservation only (R156). -/
theorem FrameQueue.free_congr {q r : FrameQueue} (hc : r.count .reply = q.count .reply) (hr : r.reserved = q.reserved) :
    r.free = q.free := by simp [FrameQueue.free, hc, hr]

theorem FrameQueue.free_mono {q r : FrameQueue} (hc : r.count .reply ≤ q.count .reply) (hr : r.reserved = q.reserved) :
    q.free ≤ r.free := by
  simp only [FrameQueue.free, hr]
  omega

theorem FrameQueue.free_anti {q r : FrameQueue} (hc : q.count .reply ≤ r.count .reply) (hr : r.reserved = q.reserved) :
    r.free ≤ q.free := FrameQueue.free_mono hc hr.symm

@[simp] theorem FrameQueue.count_push (q : FrameQueue) (f : OutFrame) (k : FrameClass) :
    (q.push f).count k = q.count k + if f.cls = k then 1 else 0 := by
  simp [FrameQueue.push, FrameQueue.count]

@[simp] theorem FrameQueue.inFlight_push (q : FrameQueue) (f : OutFrame) : (q.push f).inFlight = q.inFlight := by
  simp [FrameQueue.push, FrameQueue.inFlight]

@[simp] theorem FrameQueue.readies_push (q : FrameQueue) (f : OutFrame) :
    (q.push f).readies = q.readies ++ if f.isReady then [f] else [] := by
  simp [FrameQueue.push, FrameQueue.readies, List.filter_cons]

@[simp] theorem FrameQueue.reserved_push (q : FrameQueue) (f : OutFrame) : (q.push f).reserved = q.reserved := rfl

/-- A frame of another class than REPLY takes no REPLY entry. -/
theorem FrameQueue.free_push_of_ne (q : FrameQueue) {f : OutFrame} (h : f.cls ≠ .reply) : (q.push f).free = q.free :=
  FrameQueue.free_congr (by simp [h]) rfl

/-- A queued reply never raises the free count. -/
theorem FrameQueue.free_push_le (q : FrameQueue) (f : OutFrame) : (q.push f).free ≤ q.free :=
  FrameQueue.free_anti (by simp) rfl

/-- A change of frames that keeps each class and leaves the READYs alone changes no count. -/
theorem FrameQueue.count_map {f : Entry → Entry} (q : FrameQueue) (k : FrameClass)
    (h : ∀ e, (f e).frame.cls = e.frame.cls) : ({ q with entries := q.entries.map f } : FrameQueue).count k = q.count k := by
  simp [FrameQueue.count, List.countP_map, Function.comp_def, h]

theorem FrameQueue.readies_map {f : Entry → Entry} (q : FrameQueue)
    (h : ∀ e, (f e).frame = e.frame ∨ ((f e).frame.isReady = false ∧ e.frame.isReady = false)) :
    ({ q with entries := q.entries.map f } : FrameQueue).readies = q.readies := by
  unfold FrameQueue.readies
  dsimp only
  induction q.entries with
  | nil => rfl
  | cons e es ih =>
    simp only [List.map_cons, List.filter_cons, ih]
    rcases h e with h | ⟨h1, h2⟩ <;> simp [*]

/-- Entries that are no READY may leave without a change of the READYs. -/
theorem FrameQueue.readies_filter {p : Entry → Bool} (q : FrameQueue)
    (h : ∀ e ∈ q.entries, p e = false → e.frame.isReady = false) :
    ({ q with entries := q.entries.filter p } : FrameQueue).readies = q.readies := by
  simp only [FrameQueue.readies, List.filter_map, List.filter_filter, Function.comp_def]
  refine congrArg _ (List.filter_congr fun e he => ?_)
  cases hp : p e
  · simp [h e he hp]
  · simp

/-! ## The ends of an attempt -/

@[simp] theorem FrameQueue.count_requeue (q : FrameQueue) (k : FrameClass) : q.requeue.count k = q.count k :=
  q.count_map k fun _ => rfl

@[simp] theorem FrameQueue.reserved_requeue (q : FrameQueue) : q.requeue.reserved = q.reserved := rfl

@[simp] theorem FrameQueue.free_requeue (q : FrameQueue) : q.requeue.free = q.free := FrameQueue.free_congr (by simp) rfl

@[simp] theorem FrameQueue.inFlight_requeue (q : FrameQueue) : q.requeue.inFlight = [] := by
  simp [FrameQueue.requeue, FrameQueue.inFlight]

@[simp] theorem FrameQueue.readies_requeue (q : FrameQueue) : q.requeue.readies = q.readies :=
  q.readies_map fun _ => .inl rfl

@[simp] theorem FrameQueue.count_countBusy (q : FrameQueue) (k : FrameClass) : q.countBusy.count k = q.count k :=
  q.count_map k fun e => by split <;> rfl

@[simp] theorem FrameQueue.readies_countBusy (q : FrameQueue) : q.countBusy.readies = q.readies :=
  q.readies_map fun e => .inl (by split <;> rfl)

@[simp] theorem FrameQueue.free_countBusy (q : FrameQueue) : q.countBusy.free = q.free := FrameQueue.free_congr (by simp) rfl

@[simp] theorem FrameQueue.reserved_endSending (q : FrameQueue) : q.endSending.reserved = q.reserved := rfl

theorem FrameQueue.count_endSending_le (q : FrameQueue) (k : FrameClass) : q.endSending.count k ≤ q.count k :=
  List.filter_sublist.countP_le

theorem FrameQueue.free_endSending_le (q : FrameQueue) : q.free ≤ q.endSending.free :=
  FrameQueue.free_mono (q.count_endSending_le _) rfl

@[simp] theorem FrameQueue.inFlight_endSending (q : FrameQueue) : q.endSending.inFlight = [] := by
  simp [FrameQueue.endSending, FrameQueue.inFlight]

/-- The READYs that remain after the entry in transmission has left are those that are queued. -/
theorem FrameQueue.readies_endSending (q : FrameQueue) (h : ∀ e ∈ q.inFlight, e.frame.isReady = false) :
    q.endSending.readies = q.readies :=
  q.readies_filter fun e he hp => h e (by simp_all [FrameQueue.inFlight])

/-! ## Removal and change in place -/

theorem FrameQueue.count_removeQueued_le (q : FrameQueue) (pick : OutFrame → Bool) (k : FrameClass) :
    (q.removeQueued pick).count k ≤ q.count k := List.filter_sublist.countP_le

theorem FrameQueue.free_removeQueued_le (q : FrameQueue) (pick : OutFrame → Bool) : q.free ≤ (q.removeQueued pick).free :=
  FrameQueue.free_mono (q.count_removeQueued_le pick _) rfl

@[simp] theorem FrameQueue.reserved_removeQueued (q : FrameQueue) (pick : OutFrame → Bool) :
    (q.removeQueued pick).reserved = q.reserved := rfl

@[simp] theorem FrameQueue.inFlight_removeQueued (q : FrameQueue) (pick : OutFrame → Bool) :
    (q.removeQueued pick).inFlight = q.inFlight := by
  simp only [FrameQueue.removeQueued, FrameQueue.inFlight, List.filter_filter]
  refine List.filter_congr fun e _ => ?_
  cases e.status <;> simp

/-- Removing frames of which none is a READY leaves the READYs. -/
theorem FrameQueue.readies_removeQueued (q : FrameQueue) {pick : OutFrame → Bool}
    (h : ∀ f, pick f = true → f.isReady = false) : (q.removeQueued pick).readies = q.readies :=
  q.readies_filter fun e _ hp => h _ (by simp_all)

/-- With no READY in transmission, the removal of the queued ones leaves none (R34, R41). -/
theorem FrameQueue.readies_removeReady (q : FrameQueue) (h : ∀ e ∈ q.inFlight, e.frame.isReady = false) :
    (q.removeQueued OutFrame.isReady).readies = [] := by
  simp only [FrameQueue.readies, FrameQueue.removeQueued, List.filter_eq_nil_iff, List.mem_map, List.mem_filter,
    Bool.not_eq_true', Bool.and_eq_false_iff, decide_eq_false_iff_not]
  rintro _ ⟨e, ⟨he, hs | hr⟩, rfl⟩
  · have hf : e ∈ q.inFlight := by cases hs' : e.status <;> simp_all [FrameQueue.inFlight]
    simp [h e hf]
  · simp [hr]

theorem OutFrame.isHaltFor_cls {g : GroupNo} {f : OutFrame} (h : f.isHaltFor g = true) : f.cls = .urgent := by
  cases f <;> simp_all [OutFrame.isHaltFor, OutFrame.cls]

theorem OutFrame.isReady_cls {f : OutFrame} (h : f.isReady = true) : f.cls = .sync := by
  cases f <;> simp_all [OutFrame.isReady, OutFrame.cls]

/-- A frame of a class other than SYNC is no READY. -/
theorem OutFrame.isReady_of_cls {f : OutFrame} (h : f.cls ≠ .sync) : f.isReady = false := by
  cases hf : f.isReady with
  | false => rfl
  | true => exact absurd (OutFrame.isReady_cls hf) h

theorem OutFrame.isReady_of_isHaltFor {g : GroupNo} {f : OutFrame} (h : f.isHaltFor g = true) : f.isReady = false :=
  OutFrame.isReady_of_cls (by simp [OutFrame.isHaltFor_cls h])

theorem OutFrame.isReady_of_isToldByNotice {g : GroupNo} {t : Tag} {f : OutFrame} (h : f.isToldByNotice g t = true) :
    f.isReady = false := by
  obtain ⟨c, rfl, -⟩ := OutFrame.isToldByNotice_iff.mp h
  rfl

@[simp] theorem FrameQueue.count_changeHalt (q : FrameQueue) (g : GroupNo) (n : NoticeContent) (k : FrameClass) :
    (q.changeHalt g n).count k = q.count k :=
  q.count_map k fun e => by
    split
    · rename_i h
      exact (OutFrame.isHaltFor_cls h.2).symm
    · rfl

@[simp] theorem FrameQueue.reserved_changeHalt (q : FrameQueue) (g : GroupNo) (n : NoticeContent) :
    (q.changeHalt g n).reserved = q.reserved := rfl

@[simp] theorem FrameQueue.free_changeHalt (q : FrameQueue) (g : GroupNo) (n : NoticeContent) :
    (q.changeHalt g n).free = q.free := FrameQueue.free_congr (by simp) rfl

@[simp] theorem FrameQueue.readies_changeHalt (q : FrameQueue) (g : GroupNo) (n : NoticeContent) :
    (q.changeHalt g n).readies = q.readies :=
  q.readies_map fun e => by
    split
    · rename_i h
      exact .inr ⟨rfl, OutFrame.isReady_of_isHaltFor h.2⟩
    · exact .inl rfl

@[simp] theorem FrameQueue.inFlight_changeHalt (q : FrameQueue) (g : GroupNo) (n : NoticeContent) :
    (q.changeHalt g n).inFlight = q.inFlight := by
  unfold FrameQueue.changeHalt FrameQueue.inFlight
  dsimp only
  induction q.entries with
  | nil => rfl
  | cons e es ih =>
    cases hs : e.status with
    | queued => by_cases hf : e.frame.isHaltFor g = true <;> simp [hs, hf, ih]
    | inTransmission => simp [hs, ih]

/-! ## The offer -/

@[simp] theorem OutFrame.refreshed_cls (st : NodeState) (d : Nat) (f : OutFrame) : (f.refreshed st d).cls = f.cls := by
  cases f <;> rfl

theorem OutFrame.refreshed_of_isReady {st : NodeState} {d : Nat} {f : OutFrame} (h : f.isReady = true) :
    f.refreshed st d = f := by
  cases f <;> simp_all [OutFrame.isReady, OutFrame.refreshed]

@[simp] theorem OutFrame.refreshed_isReady (st : NodeState) (d : Nat) (f : OutFrame) :
    (f.refreshed st d).isReady = f.isReady := by
  cases f <;> rfl

theorem countP_beginOldest (k c : FrameClass) (st : NodeState) (d : Nat) (es : List Entry) :
    (beginOldest k st d es).countP (fun e => decide (e.frame.cls = c)) = es.countP fun e => decide (e.frame.cls = c) := by
  induction es with
  | nil => rfl
  | cons e es ih =>
    unfold beginOldest
    split <;> simp [List.countP_cons, ih]

theorem readies_beginOldest (k : FrameClass) (st : NodeState) (d : Nat) (es : List Entry) :
    ((beginOldest k st d es).map (·.frame)).filter OutFrame.isReady = (es.map (·.frame)).filter OutFrame.isReady := by
  induction es with
  | nil => rfl
  | cons e es ih =>
    unfold beginOldest
    split
    · cases hr : e.frame.isReady <;> simp [hr, OutFrame.refreshed_of_isReady]
    · simp [List.filter_cons, ih]

/-- At most one entry goes into transmission at an offer (R137). -/
theorem length_inFlight_beginOldest (k : FrameClass) (st : NodeState) (d : Nat) (es : List Entry) :
    ((beginOldest k st d es).filter fun e => decide (e.status = .inTransmission)).length ≤
      (es.filter fun e => decide (e.status = .inTransmission)).length + 1 := by
  induction es with
  | nil => simp [beginOldest]
  | cons e es ih =>
    unfold beginOldest
    split
    · rename_i h
      simp [h.1]
    · cases hs : e.status <;> simp [hs] <;> omega

/-- The entry in transmission is the one in flight (R137). -/
theorem FrameQueue.sending_eq_head? (q : FrameQueue) : q.sending = q.inFlight.head? := by
  simp [FrameQueue.sending, FrameQueue.inFlight, List.head?_filter]

theorem FrameQueue.sending_eq_none_iff (q : FrameQueue) : q.sending = none ↔ q.inFlight = [] := by
  simp [FrameQueue.sending_eq_head?, List.head?_eq_none_iff]

/-- What an offer does to the counts of the Frame Queue: nothing (R137, R152). -/
@[simp] theorem State.offer_fq (s : State) :
    (∀ k, s.offer.fq.count k = s.fq.count k) ∧ s.offer.fq.reserved = s.fq.reserved ∧
    s.offer.fq.readies = s.fq.readies := by
  rcases s.offer_cases with ⟨h, -⟩ | ⟨k, -, -, -, -, h⟩
  · simp [h]
  · rw [h]
    exact ⟨fun c => countP_beginOldest .., rfl, readies_beginOldest ..⟩

@[simp] theorem State.offer_free (s : State) : s.offer.fq.free = s.fq.free :=
  FrameQueue.free_congr (s.offer_fq.1 _) s.offer_fq.2.1

/-- An offer puts an entry in transmission only where none is (R137). -/
theorem State.offer_inFlight (s : State) : s.offer.fq.inFlight = s.fq.inFlight ∨
    (s.fq.inFlight = [] ∧ s.offer.fq.inFlight.length ≤ 1) := by
  rcases s.offer_cases with ⟨h, -⟩ | ⟨k, -, -, hs, -, h⟩
  · exact .inl (by rw [h])
  · have h0 := (FrameQueue.sending_eq_none_iff _).mp hs
    refine .inr ⟨h0, ?_⟩
    have := length_inFlight_beginOldest k s.mc.state s.mc.queue.length s.fq.entries
    rw [h]
    simp only [FrameQueue.inFlight] at h0 ⊢
    simpa [h0] using this

/-! ## The queue as the state's operations change it -/

@[simp] theorem State.push_fq (f : OutFrame) (s : State) : (s.push f).fq = s.fq.push f := rfl

@[simp] theorem State.fill_fq (f : OutFrame) (s : State) : (s.fill f).fq = { s.fq.push f with reserved := false } := rfl

@[simp] theorem State.reserve_fq (b : Bool) (s : State) : (s.reserve b).fq = { s.fq with reserved := b } := rfl

@[simp] theorem FrameQueue.count_reserved (q : FrameQueue) (b : Bool) (k : FrameClass) :
    ({ q with reserved := b } : FrameQueue).count k = q.count k := rfl

@[simp] theorem FrameQueue.inFlight_reserved (q : FrameQueue) (b : Bool) :
    ({ q with reserved := b } : FrameQueue).inFlight = q.inFlight := rfl

@[simp] theorem FrameQueue.readies_reserved (q : FrameQueue) (b : Bool) :
    ({ q with reserved := b } : FrameQueue).readies = q.readies := rfl

/-- A reservation never raises the free count (R156). -/
theorem FrameQueue.free_reserved_true (q : FrameQueue) : ({ q with reserved := true } : FrameQueue).free ≤ q.free := by
  simp only [FrameQueue.free, FrameQueue.count_reserved, if_true]
  cases q.reserved <;> simp

/-- A release never lowers the free count (R156). -/
theorem FrameQueue.free_reserved_false (q : FrameQueue) : q.free ≤ ({ q with reserved := false } : FrameQueue).free := by
  simp [FrameQueue.free]

/-- A reply never raises the free count when it fills the reserved entry (R156). -/
theorem FrameQueue.free_fill_le (q : FrameQueue) {f : OutFrame} (h : f.cls = .reply) :
    ({ q.push f with reserved := false } : FrameQueue).free ≤ q.free := by
  simp only [FrameQueue.free, FrameQueue.count_reserved, FrameQueue.count_push, h, if_true]
  cases q.reserved <;> simp <;> omega

/-- A reply that fills the entry reserved for it leaves the free count as it was (R156). -/
theorem FrameQueue.free_fill (q : FrameQueue) {f : OutFrame} (h : f.cls = .reply) (hr : q.reserved = true) :
    ({ q.push f with reserved := false } : FrameQueue).free = q.free := by
  simp only [FrameQueue.free, FrameQueue.count_reserved, FrameQueue.count_push, h, hr, if_true]
  simp
  omega

theorem Reply.frame_cls (src : Addr) (num kind : Nat) (r : Reply) : (r.frame src num kind).cls = .reply := by
  cases r <;> rfl

end Sys2Proof.Machine
end

section
/-! SUPPORT. What a frame read from the bus comes to, and the queue after the head's end: facts that the statements about
every command use. -/

-- One proof after another: elaborated side by side they need more threads than the check allows.
set_option deprecated.oldSectionVars true

namespace Sys2Proof.Machine

/-- The command is told with the bits of a frame (R149, R166). -/
def readsBits : Sys2Proof.Instr → Bool
  | .malformedFrameTaken _ => true
  | .frameRejectedInSlot _ => true
  | _ => false

/-- What a frame read from the bus comes to, when it is not this node's own: a malformed frame, a request of an unknown type,
another command, or nothing (R149, R166). -/
theorem State.takeReading_cases (r : Sys2Proof.RawFrame) (s : State) :
    s.takeReading r = s ∨
    s.takeReading r = s.takeHeld r.source.toNat (fun _ => false) (fun s => (s.malformed r).released) ∨
    (∃ src num, s.takeReading r = doConfigUnknown src num s) ∨ (∃ src num, s.takeReading r = doQueryUnknown src num s) ∨
    ∃ i, readsBits i = false ∧ exec i s = .next (s.takeReading r) := by
  unfold State.takeReading
  split
  · exact .inr (.inl rfl)
  · exact .inr (.inr (.inl ⟨_, _, rfl⟩))
  · exact .inr (.inr (.inr (.inl ⟨_, _, rfl⟩)))
  · rename_i i _
    refine Or.imp_right (fun h => .inr (.inr (.inr ⟨i, h⟩))) ?_
    split
    case h_25 => exact .inl rfl
    all_goals exact .inr ⟨rfl, rfl⟩

/-! ## The queue after the end of the head -/

@[simp] theorem State.retire_queue (o : RetireOutcome) (c : Option Cause) (s : State) :
    (s.retire o c).mc.queue = s.mc.queue.tail := by
  unfold State.retire
  split <;> simp [*]

@[simp] theorem State.haltMove_queue (c : Cause) (s : State) : (s.haltMove c).mc.queue = s.mc.queue.tail := by
  unfold State.haltMove State.head
  cases hq : s.mc.queue with
  | nil => simp [hq]
  | cons m rest =>
    simp only [List.head?_cons]
    split <;> simp [hq]

@[simp] theorem State.stopMove_queue (c : Cause) (d : Bool) (s : State) : (s.stopMove c d).mc.queue = s.mc.queue.tail := by
  unfold State.stopMove State.head
  cases hq : s.mc.queue with
  | nil => simp [hq]
  | cons m rest => simp [hq]

@[simp] theorem State.giveUp_queue (o : RetireOutcome) (c : Cause) (later : List Cause) (s : State) :
    (s.giveUp o c later).mc.queue = s.mc.queue.tail := by
  simp [State.giveUp]

/-- The LINK cause keeps the queue or ends its head (R101). -/
theorem State.linkCause_queue (s : State) :
    s.linkCause.mc.queue = s.mc.queue ∨ s.linkCause.mc.queue = s.mc.queue.tail := by
  unfold State.linkCause
  split
  case h_4 => split <;> simp
  all_goals simp

theorem State.giveLink_length_le (s : State) : s.giveLink.mc.queue.length ≤ s.mc.queue.length := by
  unfold State.giveLink State.takeLink
  split
  · rcases s.linkCause_queue with h | h <;> simp [h]
  · exact le_rfl

@[simp] theorem State.giveLink_linkDue (s : State) : s.giveLink.mc.linkDue = false := by
  unfold State.giveLink State.takeLink
  split
  · rfl
  · exact Bool.eq_false_iff.mpr ‹_›

@[simp] theorem State.completeSeek_queue (s : State) : s.completeSeek.mc.queue = s.mc.queue.tail := by
  simp [State.completeSeek]

end Sys2Proof.Machine
end
section
/-! Every event ends with nothing left to do (R12, R94, R155): what ends by `State.finish` does so from any state, and the
rest changes nothing that could be left to do. -/

-- One proof after another: elaborated side by side they need more threads than the check allows.
set_option deprecated.oldSectionVars true

namespace Sys2Proof.Machine

/-! ## The end of an event -/

/-- What the arming checks of a PENDING head can come to: the head leaves the queue, the node is no longer PENDING with no
LINK cause due, or a READY that found the SYNC share full leaves that cause due (R13, R15, R155). -/
theorem State.armHead_cases {s : State} (m : Move) (hd : s.mc.linkDue = false) :
    (s.armHead m).mc.queue = s.mc.queue.tail ∨
    ((s.armHead m).mc.state ≠ .pending ∧ (s.armHead m).mc.linkDue = false) ∨
    s.armHead m = s.updMc fun c => { c with linkDue := true } := by
  unfold State.armHead
  split
  · exact .inl (by simp)
  · split
    · unfold State.announce
      split
      · exact .inr (.inl (by simp [hd]))
      · exact .inr (.inr rfl)
    · unfold State.startSolo
      split
      · exact .inl (by simp)
      · exact .inr (.inl (by simp [hd, State.startMove]))

/-- A PENDING head that may still have to be checked is one of at most `n`, once the LINK cause due is given. -/
def State.headsLeft (n : Nat) (s : State) : Prop := s.giveLink.mc.state = .pending → s.giveLink.mc.queue.length ≤ n

theorem State.headsLeft_length (s : State) : s.headsLeft s.mc.queue.length := fun _ => s.giveLink_length_le

/-- Each check of a ready head leaves one head fewer to check. -/
theorem State.headsLeft_armHead {s : State} {m : Move} {n : Nat} (hd : s.mc.linkDue = false) (hp : s.mc.state = .pending)
    (hn : s.mc.queue.length ≤ n + 1) : (s.armHead m).headsLeft n := by
  intro hpend
  rcases State.armHead_cases m hd with h | ⟨h, hd'⟩ | h
  · have := (s.armHead m).giveLink_length_le
    simp only [h, List.length_tail] at this
    omega
  · rw [State.giveLink_of_not_due hd'] at hpend
    exact absurd hpend h
  · rw [h] at hpend
    simp [State.giveLink, State.takeLink, State.linkCause, State.hold, hp] at hpend

/-- Settling gives the LINK cause due and leaves no PENDING head that is ready for its checks (R12, R155). -/
theorem State.settle_spec (n : Nat) (s : State) (h : s.headsLeft n) :
    (s.settle n).mc.linkDue = false ∧
    ((s.settle n).mc.state = .pending → ∀ m ∈ (s.settle n).mc.queue.head?, (s.settle n).readyFor m = false) := by
  induction n generalizing s with
  | zero =>
    refine ⟨s.giveLink_linkDue, fun hp m hm => ?_⟩
    have hq : s.giveLink.mc.queue = [] := List.length_eq_zero_iff.mp (Nat.le_zero.mp (h hp))
    rw [State.settle, hq] at hm
    cases hm
  | succ n ih =>
    simp only [State.settle]
    split
    · rename_i m rest hp hq
      split
      · exact ih _ (State.headsLeft_armHead s.giveLink_linkDue hp (h hp))
      · refine ⟨s.giveLink_linkDue, fun _ x hx => ?_⟩
        simp_all
    · rename_i hno
      refine ⟨s.giveLink_linkDue, fun hp x hx => ?_⟩
      cases hq : s.giveLink.mc.queue with
      | nil => simp [hq] at hx
      | cons m rest => exact absurd hq (hno m rest hp)

theorem State.readyFor_congr {s t : State} (m : Move) (hm : t.gate.marks = s.gate.marks) (hf : t.fq.free = s.fq.free)
    (hr : t.mc.record = s.mc.record) : t.readyFor m = s.readyFor m := by
  simp [State.readyFor, hm, hf, hr]

/-- All that filling the URGENT share can do: nothing, with the share full or no notice WAITING, or queue one HALT, with the
share then full (R94). -/
theorem State.fillUrgent_cases (s : State) :
    (s.fillUrgent = s ∧ (s.fq.count .urgent < share .urgent → ∀ n ∈ s.mc.notices, n.status ≠ .waiting)) ∨
    ∃ n ∈ s.mc.notices, s.fq.count .urgent < share .urgent ∧
      s.fillUrgent = (s.push (.halt n.group n.content.kind n.content.cause n.content.tag)).updMc
        fun m => { m with notices := changeNotice n.group (fun x => { x with status := .offered }) m.notices } := by
  unfold State.fillUrgent
  split
  · rename_i hu
    split
    · rename_i n hn
      exact .inr ⟨n, List.mem_of_find?_eq_some hn, hu, rfl⟩
    · rename_i hn
      exact .inl ⟨rfl, fun _ => by simpa using hn⟩
  · rename_i hu
    exact .inl ⟨rfl, fun h => absurd h hu⟩

/-- The HALT that filling the URGENT share may queue takes no REPLY entry and is no READY (R94, R150). -/
@[simp] theorem State.fillUrgent_fq (s : State) :
    s.fillUrgent.fq.free = s.fq.free ∧ s.fillUrgent.fq.reserved = s.fq.reserved ∧
    s.fillUrgent.fq.inFlight = s.fq.inFlight ∧ s.fillUrgent.fq.readies = s.fq.readies := by
  rcases s.fillUrgent_cases with ⟨h, -⟩ | ⟨n, -, -, h⟩
  · simp [h]
  · have hc : (OutFrame.halt n.group n.content.kind n.content.cause n.content.tag).cls ≠ .reply := by simp [OutFrame.cls]
    simp [h, FrameQueue.free_push_of_ne _ hc, OutFrame.isReady]

/-- What follows an event leaves nothing to do, whatever the event did. -/
theorem State.finish_settled (s : State) : s.finish.settled := by
  obtain ⟨hd, hp⟩ := s.settle_spec _ s.headsLeft_length
  refine ⟨by simpa [State.finish] using hd, fun hs m hm => ?_, fun hu => ?_⟩
  · have hr := hp (by simpa [State.finish] using hs) m (by simpa [State.finish] using hm)
    rw [← hr]
    exact State.readyFor_congr m (by simp [State.finish]) (by simp [State.finish]) (by simp [State.finish])
  · rcases (s.settle s.mc.queue.length).fillUrgent_cases with ⟨h, hn⟩ | ⟨n, -, -, h⟩
    · simp only [State.finish, h, State.offer_fq, State.offer_frame] at hu ⊢
      exact hn hu
    · simp [State.finish, h, OutFrame.cls, share] at hu

/-! ## What leaves nothing new to do -/

/-- A state with nothing left to do stays so when its head, if it still is PENDING, finds no more REPLY room, and the notices
and the URGENT share are as they were. -/
theorem State.settled.of_le {s t : State} (h : s.settled) (hd : t.mc.linkDue = s.mc.linkDue)
    (hp : t.mc.state = .pending → s.mc.state = .pending ∧ t.mc.queue.head? = s.mc.queue.head? ∧ t.mc.record = s.mc.record)
    (hm : t.gate.marks = s.gate.marks) (hf : t.fq.free ≤ s.fq.free) (hn : t.mc.notices = s.mc.notices)
    (hu : t.fq.count .urgent = s.fq.count .urgent) : t.settled := by
  refine ⟨hd.trans h.1, fun hs m hq => ?_, fun hc => hn ▸ h.2.2 (hu ▸ hc)⟩
  obtain ⟨hs', hq', hr'⟩ := hp hs
  have := h.2.1 hs' m (hq' ▸ hq)
  simp only [State.readyFor, Bool.and_eq_false_iff, decide_eq_false_iff_not, hm, hr'] at this ⊢
  exact this.imp_left (Or.imp_right fun h0 => by omega)

/-- Nothing of the Move Controller or the mark list has changed, and no REPLY room was gained. -/
theorem State.settled.of_frame {s t : State} (h : s.settled) (hmc : t.mc = s.mc) (hg : t.gate.marks = s.gate.marks)
    (hf : t.fq.free ≤ s.fq.free) (hu : t.fq.count .urgent = s.fq.count .urgent) : t.settled :=
  h.of_le (by rw [hmc]) (by rw [hmc]; exact fun hs => ⟨hs, rfl, rfl⟩) hg hf (by rw [hmc]) hu

theorem State.offer_settled {s : State} (h : s.settled) : s.offer.settled :=
  h.of_frame (by simp) (by simp) (by simp) (by simp)

theorem State.afterSlot_settled {s : State} (m : SlotMarks) (h : s.settled) : (s.afterSlot m).settled :=
  h.of_frame rfl rfl le_rfl rfl

theorem State.reserve_settled {s : State} (h : s.settled) : (s.reserve true).settled :=
  h.of_frame rfl rfl (FrameQueue.free_reserved_true _) rfl

theorem State.fill_settled {s : State} {f : OutFrame} (h : s.settled) (hf : f.cls = .reply) : (s.fill f).settled :=
  h.of_frame rfl rfl (FrameQueue.free_fill_le _ hf) (by simp [hf])

theorem State.slotPassed_settled {s : State} (b : Bool) (h : s.settled) : (s.slotPassed b).settled := by
  unfold State.slotPassed
  split
  · dsimp only
    split
    · exact State.reserve_settled (h.of_frame rfl rfl le_rfl rfl)
    · exact h.of_frame rfl rfl le_rfl rfl
  · exact h

theorem State.attemptLost_settled {s : State} (h : s.settled) : s.attemptLost.settled := by
  unfold State.attemptLost
  split
  · exact h
  · exact State.finish_settled _

theorem State.ownTaken_settled {s : State} (h : s.settled) : s.ownTaken.settled := by
  unfold State.ownTaken
  split
  · exact h
  · exact State.finish_settled _

theorem State.released_settled {s : State} (h : s.settled) : s.released.settled := by
  unfold State.released
  split
  · exact State.finish_settled _
  · exact h

theorem State.slotRejects_settled {s : State} (own : Bool) (m : SlotMarks) (h : s.settled) :
    (s.slotRejects own m).settled := by
  unfold State.slotRejects
  split
  · exact State.finish_settled _
  · exact State.released_settled (State.afterSlot_settled m h)

theorem State.takeHeld_settled {s : State} (src : Addr) (own : OutFrame → Bool) {act : State → State}
    (ha : ∀ u : State, u.settled → (act u).settled) (h : s.settled) : (s.takeHeld src own act).settled := by
  unfold State.takeHeld
  split
  · exact State.afterSlot_settled _ h
  · split
    · split
      · exact State.ownTaken_settled h
      · exact State.finish_settled _
    · exact ha _ (State.afterSlot_settled _ (State.attemptLost_settled h))

theorem State.takeFrom_settled {s : State} (src : Addr) (own : OutFrame → Bool) {act : State → State}
    (ha : ∀ u : State, u.settled → (act u).settled) (h : s.settled) : (s.takeFrom src own act).settled :=
  State.takeHeld_settled src own ha (State.released_settled h)

theorem State.hear_alive_settled {s : State} (src : Addr) (h : s.settled) : (s.hear src .alive).settled :=
  h.of_frame rfl rfl le_rfl rfl

/-- A request leaves nothing to do if what its action and its reply set going does. -/
theorem State.request_settled {s : State} (src num : Nat) (k : RequestKind) {act : State → State × Reply}
    {after : State → State}
    (ha : ∀ (u : State) (f : OutFrame), u.settled → f.cls = .reply → (after ((act u).1.fill f)).settled)
    (h : s.settled) : (s.request src num k act after).settled := by
  unfold State.request
  split
  · exact State.afterSlot_settled _ h
  · have h1 : (if src = s.self then s else s.attemptLost).settled := by
      split
      · exact h
      · exact State.attemptLost_settled h
    revert h1
    dsimp only
    generalize (if src = s.self then s else s.attemptLost) = u
    intro h1
    split
    · exact State.slotRejects_settled _ _ h1
    · split
      · exact State.finish_settled _
      · exact ha _ _ (State.reserve_settled (State.hear_alive_settled src (State.afterSlot_settled _ h1)))
          (Reply.frame_cls ..)

/-- A request after which only the offer follows leaves nothing to do if its action leaves nothing to do. -/
theorem State.request_offer_settled {s : State} (src num : Nat) (k : RequestKind) {act : State → State × Reply}
    (ha : ∀ u : State, u.settled → (act u).1.settled) (h : s.settled) :
    (s.request src num k act State.offer).settled :=
  State.request_settled src num k (fun u _ hu hf => State.offer_settled (State.fill_settled (ha u hu) hf)) h

theorem State.request_finish_settled {s : State} (src num : Nat) (k : RequestKind) (act : State → State × Reply)
    (h : s.settled) : (s.request src num k act State.finish).settled :=
  State.request_settled src num k (fun _ _ _ _ => State.finish_settled _) h

/-! ## The actions of the requests -/

theorem State.configure_settled {s : State} (checks : List (Bool × NakReason)) (store : Store → Store) (h : s.settled) :
    (s.configure checks store).1.settled := by
  unfold State.configure
  split
  · exact h
  · split
    · exact h
    · exact h.of_frame rfl rfl le_rfl rfl

/-- A node that is not PENDING and has lost no SYNC frame leaves nothing to do if its notices do not. -/
theorem State.settled.of_not_pending {s t : State} (h : s.settled) (hd : t.mc.linkDue = false) (hp : t.mc.state ≠ .pending)
    (hn : t.mc.notices = s.mc.notices) (hu : t.fq.count .urgent = s.fq.count .urgent) : t.settled :=
  ⟨hd, fun hs => absurd hs hp, fun hc => hn ▸ h.2.2 (hu ▸ hc)⟩

theorem State.hold_settled {s : State} (c : Cause) (h : s.settled) : (s.hold c).settled :=
  h.of_not_pending (by simpa using h.1) (by simp [State.hold]) rfl rfl

theorem State.judgeInput_settled {s : State} (i : InputName) (c : Cause) (h : s.settled) : (s.judgeInput i c).settled := by
  unfold State.judgeInput
  split
  · exact State.hold_settled c (h.of_frame rfl rfl le_rfl rfl)
  · exact h

/-- The state after COMMIT has judged the inputs is IDLE or HELD (R98, R131). -/
theorem State.judgeInput_state {s : State} (i : InputName) (c : Cause) (h : s.mc.state = .idle ∨ s.mc.state = .held) :
    (s.judgeInput i c).mc.state = .idle ∨ (s.judgeInput i c).mc.state = .held := by
  unfold State.judgeInput
  split
  · exact .inr rfl
  · exact h

theorem State.judgeBlocked_settled {s : State} (hs : s.mc.state = .idle ∨ s.mc.state = .held) (h : s.settled) :
    s.judgeBlocked.settled := by
  unfold State.judgeBlocked
  split
  · rcases hs with hs | hs
    · exact h.of_not_pending rfl (by simp [State.takeLink, State.linkCause, hs, State.hold])
        (by simp [State.takeLink, State.linkCause, hs]) (by simp [State.takeLink, State.linkCause, hs])
    · exact h.of_not_pending rfl (by simp [State.takeLink, State.linkCause, hs])
        (by simp [State.takeLink, State.linkCause, hs]) (by simp [State.takeLink, State.linkCause, hs])
  · exact h

/-- A COMMIT ends IDLE or HELD with no SYNC frame lost (R98, R101, R131). -/
theorem State.commitEffect_settled {s : State} (h : s.settled) : s.commitEffect.settled := by
  have hb : s.commitBuild.settled := h.of_not_pending h.1 (by simp [State.commitBuild]) rfl rfl
  exact State.judgeBlocked_settled (State.judgeInput_state _ _ (State.judgeInput_state _ _ (.inl rfl)))
    (State.judgeInput_settled _ _ (State.judgeInput_settled _ _ hb))

theorem State.restarted_settled (s : State) : s.restarted.settled := by
  refine ⟨rfl, by simp [State.restarted, State.powerOn, MoveCtl.powerOn], fun _ n hn => ?_⟩
  simp [State.restarted, State.powerOn, MoveCtl.powerOn] at hn

theorem State.flushAct_settled {s : State} (h : s.settled) : s.flushAct.1.settled := by
  have hs : s.flushQueue.mc.state ≠ .pending := by
    by_cases hp : s.mc.state = .pending <;> simp [State.flushQueue, hp]
  have hf : s.flushQueue.settled := h.of_not_pending h.1 hs rfl rfl
  unfold State.flushAct
  split
  case h_2 | h_3 | h_4 => exact hf
  all_goals exact h

theorem State.setposAct_settled {s : State} (v : Signed32) (h : s.settled) : (s.setposAct v).1.settled := by
  unfold State.setposAct
  split
  · exact h.of_frame rfl rfl le_rfl rfl
  · exact h

/-- A new cap changes nothing but the Lead Generator (R71). -/
@[simp] theorem State.recap_frame (s : State) :
    s.recap.link = s.link ∧ s.recap.fq = s.fq ∧ s.recap.store = s.store ∧ s.recap.mc = s.mc ∧ s.recap.roll = s.roll ∧
    s.recap.gate = s.gate ∧ s.recap.peer = s.peer ∧ s.recap.out = s.out ∧ s.recap.inp = s.inp ∧
    s.recap.pending = s.pending := by
  unfold State.recap
  split
  · split <;> simp
  · simp

theorem State.scaleAct_settled {s : State} (p : Nat) (h : s.settled) : (s.scaleAct p).1.settled := by
  unfold State.scaleAct
  split
  · exact h
  · split
    · exact h
    · dsimp only
      split
      · exact h.of_frame (by simp) (by simp) (by simp) (by simp)
      · exact h.of_frame rfl rfl le_rfl rfl

theorem State.queryGroupAct_settled {s : State} (g i : Nat) (h : s.settled) : (s.queryGroupAct g i).1.settled := by
  unfold State.queryGroupAct
  split
  · exact h
  · split <;> exact h

theorem State.queryQueueAct_settled {s : State} (i : Nat) (h : s.settled) : (s.queryQueueAct i).1.settled := by
  unfold State.queryQueueAct
  split <;> exact h

theorem State.groupScaleTake_settled {s : State} (g p : Nat) (h : s.settled) : (s.groupScaleTake g p).settled := by
  unfold State.groupScaleTake
  split
  · dsimp only
    split
    · split
      · exact h.of_frame (by simp) (by simp) (by simp) (by simp)
      · exact h.of_frame rfl rfl le_rfl rfl
    · exact h
  · exact h

/-! ## The events of the node's own -/

theorem State.idle_settled {s : State} (h : s.settled) : s.idle.settled := by
  have leave {u : State} (hu : u.settled) : u.leaveOffline.settled := by
    unfold State.leaveOffline
    split
    · exact hu.of_frame rfl rfl le_rfl rfl
    · exact hu
  unfold State.idle
  split
  · exact h
  · exact State.offer_settled (leave (h.of_frame rfl rfl le_rfl rfl))

theorem State.dominantBit_settled {s : State} (h : s.settled) : s.dominantBit.settled := by
  unfold State.dominantBit
  split
  · exact h
  · split <;> exact h.of_frame rfl rfl le_rfl rfl

theorem State.leadStep_settled {s : State} (h : s.settled) : s.leadStep.settled := by
  unfold State.leadStep
  split
  · exact State.finish_settled _
  · exact h

theorem State.rollExpires_settled {s : State} (h : s.settled) : s.rollExpires.settled := by
  unfold State.rollExpires
  split
  · exact h
  · dsimp only
    split
    · exact State.finish_settled _
    · exact h.of_frame rfl rfl le_rfl rfl

theorem State.gateExpires_settled {s : State} (h : s.settled) : s.gateExpires.settled := by
  unfold State.gateExpires
  split
  · exact h
  · dsimp only
    split
    · exact h.of_le rfl (fun hp => ⟨hp, rfl, rfl⟩) rfl le_rfl rfl rfl
    · exact State.finish_settled _

theorem State.silenceExpires_settled {s : State} (p : Addr) (h : s.settled) : (s.silenceExpires p).settled := by
  unfold State.silenceExpires
  split
  · exact h
  · split
    · exact h
    · exact State.finish_settled _

theorem State.beaconExpires_settled {s : State} (h : s.settled) : s.beaconExpires.settled := by
  have queue {u : State} (hu : u.settled) : u.queueBeacon.settled := by
    unfold State.queueBeacon
    split
    · exact hu.of_frame rfl rfl (FrameQueue.free_push_le ..) (by simp [OutFrame.cls])
    · exact hu
  unfold State.beaconExpires
  split
  · exact h
  · exact State.offer_settled (queue (h.of_frame rfl rfl le_rfl rfl))

theorem State.listenExpires_settled {s : State} (h : s.settled) : s.listenExpires.settled := by
  unfold State.listenExpires
  split
  · exact h
  · exact State.finish_settled _

/-- A registered assertion leaves nothing to do if its delivery does not. -/
theorem State.assertion_settled {s : State} (i : InputName) {deliver : State → State}
    (hd : ∀ u : State, u.settled → (deliver u).settled) (h : s.settled) : (s.assertion i deliver).settled := by
  have hr : (s.register i (s.activeLevel i)).settled := h.of_frame (by simp) (by simp) (by simp) (by simp)
  unfold State.assertion
  split
  · exact h
  · split
    · exact hr
    · exact hd _ hr

theorem State.limitDelivered_settled {s : State} (side : LimitSide) (h : s.settled) : (s.limitDelivered side).settled := by
  unfold State.limitDelivered
  split
  · split
    · split
      · exact State.finish_settled _
      · split
        · exact State.finish_settled _
        · exact h
    · exact h
  · exact h

theorem State.driveStop_settled {s : State} (c : Cause) (h : s.settled) : (s.driveStop c).settled := by
  unfold State.driveStop
  split
  · exact h
  · exact State.finish_settled _

theorem State.homeDelivered_settled {s : State} (h : s.settled) : s.homeDelivered.settled := by
  unfold State.homeDelivered
  split
  · split
    · exact State.finish_settled _
    · exact h
  · exact h

theorem State.ownRejected_settled {s : State} (m : SlotMarks) (h : s.settled) : (s.ownRejected m).settled := by
  unfold State.ownRejected
  split
  · exact h
  · exact State.slotRejects_settled _ _ h

theorem State.ownBusy_settled {s : State} (h : s.settled) : s.ownBusy.settled := by
  unfold State.ownBusy
  split
  · exact h
  · exact State.finish_settled _

/-! ## Every command -/

/-- Every command but those that are told with a frame's bits leaves nothing to do. -/
theorem exec_settled_of_not_bits {c : Sys2Proof.Instr} {s t : State} (hb : readsBits c = false) (h : s.settled)
    (he : exec c s = .next t) : t.settled := by
  cases c <;> cases he
  case configGroup | configProfile | configProfileTablePart | configLimits | configTiming | configInputs =>
    exact State.request_offer_settled _ _ _ (fun _ hu => State.configure_settled _ _ hu) h
  case commit =>
    refine State.request_offer_settled _ _ _ (fun u hu => ?_) h
    split
    · exact hu
    · exact State.commitEffect_settled hu
  case restart =>
    refine State.request_offer_settled _ _ _ (fun u hu => ?_) h
    split
    · exact State.restarted_settled u
    · exact hu
  case load | stop | resume => exact State.request_finish_settled _ _ _ _ h
  case flush => exact State.request_offer_settled _ _ _ (fun _ hu => State.flushAct_settled hu) h
  case setpos => exact State.request_offer_settled _ _ _ (fun _ hu => State.setposAct_settled _ hu) h
  case scale => exact State.request_offer_settled _ _ _ (fun _ hu => State.scaleAct_settled _ hu) h
  case queryNode => exact State.request_offer_settled _ _ _ (fun _ hu => hu) h
  case queryGroup => exact State.request_offer_settled _ _ _ (fun _ hu => State.queryGroupAct_settled _ _ hu) h
  case queryQueue => exact State.request_offer_settled _ _ _ (fun _ hu => State.queryQueueAct_settled _ hu) h
  case readyTaken | withdrawTaken | haltTaken | markTaken | beaconTaken =>
    exact State.takeFrom_settled _ _ (fun _ _ => State.finish_settled _) h
  case groupScaleTaken =>
    exact State.takeFrom_settled _ _
      (fun _ hu => State.offer_settled (State.groupScaleTake_settled _ _ (State.hear_alive_settled _ hu))) h
  case replyFrameTaken =>
    exact State.takeFrom_settled _ _ (fun _ hu => State.offer_settled (State.hear_alive_settled _ hu)) h
  case malformedFrameTaken | frameRejectedInSlot => cases hb
  case ownFrameTaken => exact State.ownTaken_settled h
  case lostInArbitration => exact State.attemptLost_settled h
  case rejected | discarded => exact State.ownRejected_settled _ h
  case refusedAsBusy | dropped => exact State.ownBusy_settled h
  case busIdle => exact State.idle_settled h
  case leadStep => exact State.leadStep_settled (State.slotPassed_settled _ h)
  case rollTimeout => exact State.rollExpires_settled (State.slotPassed_settled _ h)
  case gateWaitTimerExpires => exact State.gateExpires_settled (State.slotPassed_settled _ h)
  case silenceTimerExpires => exact State.silenceExpires_settled _ (State.slotPassed_settled _ h)
  case beaconTimerExpires => exact State.beaconExpires_settled h
  case listenTimerExpires => exact State.listenExpires_settled h
  case limitAsserted =>
    exact State.assertion_settled _ (fun _ hu => State.limitDelivered_settled _ hu) (State.slotPassed_settled _ h)
  case dalmAsserted | stopinAsserted =>
    exact State.assertion_settled _ (fun _ hu => State.driveStop_settled _ hu) (State.slotPassed_settled _ h)
  case homeAsserted =>
    exact State.assertion_settled _ (fun _ hu => State.homeDelivered_settled hu) (State.slotPassed_settled _ h)
  case inputChangeInactive =>
    unfold State.inactive
    split
    · exact h
    · exact h.of_frame (by simp) (by simp) (by simp) (by simp)
  case resetAsserted => exact ⟨rfl, by rintro ⟨⟩, by rintro - _ ⟨⟩⟩
  case powerOn => exact ⟨rfl, by rintro ⟨⟩, by rintro - _ ⟨⟩⟩
  case lineLevelChange =>
    unfold State.lineChange
    split
    · exact h
    · exact h.of_frame rfl rfl le_rfl rfl
  case dominantBitOutsideFrame => exact State.dominantBit_settled h

theorem State.malformed_settled {s : State} (r : Sys2Proof.RawFrame) (h : s.settled) : (s.malformed r).settled := by
  unfold State.malformed
  dsimp only
  split
  · exact State.fill_settled (State.reserve_settled (State.hear_alive_settled _ h)) rfl
  · exact State.hear_alive_settled _ h

theorem State.takeReading_settled {s : State} (r : Sys2Proof.RawFrame) (h : s.settled) : (s.takeReading r).settled := by
  rcases s.takeReading_cases r with he | he | ⟨src, num, he⟩ | ⟨src, num, he⟩ | ⟨i, hi, he⟩
  · rw [he]
    exact h
  · exact he ▸ State.takeHeld_settled _ _ (fun _ hu => State.released_settled (State.malformed_settled r hu)) h
  · exact he ▸ State.request_offer_settled _ _ _ (fun _ hu => State.configure_settled _ _ hu) h
  · exact he ▸ State.request_offer_settled _ _ _ (fun _ hu => hu) h
  · exact exec_settled_of_not_bits hi h he

theorem State.receive_settled {s : State} (r : Sys2Proof.RawFrame) (h : s.settled) : (s.receive r).settled := by
  have hl : (if decide (r.source.toNat = s.self) = true then s else s.attemptLost).settled := by
    split
    · exact h
    · exact State.attemptLost_settled h
  unfold State.receive
  split
  · exact State.afterSlot_settled _ h
  · split
    · exact State.ownTaken_settled h
    · revert hl
      dsimp only
      generalize (if decide (r.source.toNat = s.self) = true then s else s.attemptLost) = u
      intro hl
      split
      · exact State.takeReading_settled r hl
      · exact State.slotRejects_settled _ _ hl

theorem State.rejectedInSlot_settled {s : State} (r : Sys2Proof.RawFrame) (h : s.settled) :
    (s.rejectedInSlot r).settled := by
  unfold State.rejectedInSlot
  split
  · exact State.afterSlot_settled _ h
  · refine State.slotRejects_settled _ _ ?_
    split
    · exact h
    · exact State.attemptLost_settled h

/-- Settles O59: what ends an event leaves nothing to do, and a command that has no end of an event brings up nothing. -/
theorem eventsEndSettled : Obligations.EventsEndSettled := by
  intro c s t h he
  cases hb : readsBits c with
  | false => exact exec_settled_of_not_bits hb h he
  | true =>
    cases c
    case malformedFrameTaken r =>
      cases he
      exact State.receive_settled r h
    case frameRejectedInSlot r =>
      cases he
      exact State.rejectedInSlot_settled r h
    all_goals cases hb

end Sys2Proof.Machine
end

section
/-! The requests of the move queue: the ranges of a LOAD's fields, LOAD and FLUSH (R5 to R9). -/

-- One proof after another: elaborated side by side they need more threads than the check allows.
set_option deprecated.oldSectionVars true

namespace Sys2Proof.Machine

/-! ## The ranges of a LOAD's fields -/

theorem within_eq_true_iff {lo hi n : Nat} : within lo hi n = true ↔ lo ≤ n ∧ n ≤ hi := by simp [within]

theorem gateInRange_iff (g : GateField) :
    gateInRange g = true ↔ 1 ≤ g.source ∧ g.source ≤ 30 ∧ 1 ≤ g.tag ∧ g.tag ≤ 65535 ∧ g.marker ≤ 1 := by
  simp [gateInRange, within_eq_true_iff, and_assoc]

theorem markerInRange_iff (L : Nat) (k : MarkerField) :
    markerInRange L k = true ↔ k.number ≤ 1 ∧ 1 ≤ k.position ∧ k.position ≤ L ∧ k.line ≤ 2 := by
  simp [markerInRange, within_eq_true_iff, and_assoc]

/-- Settles O29: the check is an alternative of the fields' own checks, read one by one. -/
theorem loadFieldRanges : Obligations.LoadFieldRanges := by
  rintro ⟨tag, group, kind, slot, L, D, gates, wait, markers⟩
  cases group <;> cases wait <;>
    simp only [loadBadField, Bool.or_eq_false_iff, Bool.not_eq_false', within_eq_true_iff, List.all_eq_true,
      gateInRange_iff, markerInRange_iff, decide_eq_false_iff_not, decide_eq_true_eq, Bool.and_eq_false_iff, and_assoc,
      Option.some.injEq, forall_eq', reduceCtorEq, List.isEmpty_eq_false_iff, not_lt, not_not, ← imp_iff_not_or, zero_le,
      true_and, false_imp_iff, implies_true, ← Nat.one_le_iff_ne_zero, Nat.le_one_iff_eq_zero_or_eq_one] <;>
    simp only [Config.maxLead] <;>
    tauto

/-! ## FLUSH -/

/-- A reply is not offered at once: the slot of the request has just ended (R136, R137). -/
theorem State.offer_fill_opened {s u : State} {src : Addr} (f : OutFrame) (h : u.link = (s.opened src).link) :
    (u.fill f).offer = u.fill f :=
  State.offer_of_not_idle (by simp [h])

/-- Settles O31: by the node state, each request being answered on a bus that is not idle. -/
theorem flushEmptiesTheQueue : Obligations.FlushEmptiesTheQueue := by
  intro src num s h
  show Host.Outcome.next (s.request src num .flush State.flushAct State.offer) = _
  have hl : (s.opened src).flushAct.1.link = (s.opened src).link := by
    unfold State.flushAct
    split <;> rfl
  rw [State.request_of_takes h, State.offer_fill_opened _ hl]
  obtain ⟨link, fq, store, ⟨state, _, _, _, _, _, _, _, _, _⟩, _, _, _, _, _, _, _⟩ := s
  cases state <;> rfl

end Sys2Proof.Machine
end

section
/-! SUPPORT. The frames that an operation queues, and what the retirement of the head does to the whole state (R17 to R21). -/

-- One proof after another: elaborated side by side they need more threads than the check allows.
set_option deprecated.oldSectionVars true

namespace Sys2Proof.Machine

/-- Several frames are queued, one after the other (R150). -/
def FrameQueue.pushAll (q : FrameQueue) (fs : List OutFrame) : FrameQueue :=
  { q with entries := q.entries ++ fs.map fun f => { frame := f, status := .queued, busy := 0 } }

@[simp] theorem FrameQueue.pushAll_nil (q : FrameQueue) : q.pushAll [] = q := by simp [FrameQueue.pushAll]

theorem FrameQueue.push_eq_pushAll (q : FrameQueue) (f : OutFrame) : q.push f = q.pushAll [f] := rfl

theorem FrameQueue.pushAll_pushAll (q : FrameQueue) (fs gs : List OutFrame) :
    (q.pushAll fs).pushAll gs = q.pushAll (fs ++ gs) := by
  simp [FrameQueue.pushAll]

@[simp] theorem FrameQueue.pushAll_reserved (q : FrameQueue) (fs : List OutFrame) : (q.pushAll fs).reserved = q.reserved := rfl

theorem FrameQueue.pushAll_cons (q : FrameQueue) (f : OutFrame) (fs : List OutFrame) :
    q.pushAll (f :: fs) = (q.push f).pushAll fs := by
  rw [FrameQueue.push_eq_pushAll, FrameQueue.pushAll_pushAll, List.singleton_append]

@[simp] theorem FrameQueue.inFlight_pushAll (q : FrameQueue) (fs : List OutFrame) : (q.pushAll fs).inFlight = q.inFlight := by
  induction fs generalizing q with
  | nil => simp
  | cons f fs ih => simp [FrameQueue.pushAll_cons, ih]

theorem FrameQueue.count_pushAll_of_ne {k : FrameClass} {fs : List OutFrame} (h : ∀ f ∈ fs, f.cls ≠ k) (q : FrameQueue) :
    (q.pushAll fs).count k = q.count k := by
  induction fs generalizing q with
  | nil => simp
  | cons f fs ih =>
    rw [FrameQueue.pushAll_cons, ih fun x hx => h x (List.mem_cons_of_mem _ hx)]
    simp [h f List.mem_cons_self]

theorem FrameQueue.count_pushAll_le (q : FrameQueue) (fs : List OutFrame) (k : FrameClass) :
    (q.pushAll fs).count k ≤ q.count k + fs.length := by
  simp only [FrameQueue.pushAll, FrameQueue.count, List.countP_append, Nat.add_le_add_iff_left]
  exact List.countP_le_length.trans_eq (by simp)

/-! ## SYNC frames -/

theorem State.queueSync_of_room {s : State} (f : OutFrame) (h : s.fq.count .sync < 6) :
    s.queueSync f = s.updFq fun q => q.pushAll [f] := by
  simp [State.queueSync, share, h]
  rfl

/-- A run of SYNC frames that fits its share is queued whole (R150). -/
theorem State.voidAll_of_room {s : State} (t : Tag) (ms : List Marker) (h : s.fq.count .sync + ms.length ≤ 6) :
    s.voidAll t ms = s.updFq fun q => q.pushAll (ms.map fun k => .mark t k.number .void) := by
  induction ms generalizing s with
  | nil => simp [State.voidAll, State.updFq]
  | cons k ms ih =>
    simp only [List.length_cons] at h
    rw [State.voidAll, State.queueSync_of_room _ (by omega), ih]
    · simp [State.updFq, FrameQueue.pushAll_pushAll]
    · simp only [State.updFq_fq, ← FrameQueue.push_eq_pushAll, FrameQueue.count_push, OutFrame.cls, if_true]
      omega

/-- The WITHDRAW of a retirement, if it queues one (R21). -/
def withdrawOf (m : Move) (o : RetireOutcome) (c : Option Cause) : List OutFrame :=
  match o, m.group, c with
  | .failed, some g, some k => if k = .peerWithdrew then [] else [.withdraw g m.tag k]
  | _, _, _ => []

/-- All that a WITHDRAW can be: none, or one SYNC frame (R21). -/
theorem State.withdraw_cases (s : State) (m : Move) (o : RetireOutcome) (c : Option Cause) :
    (withdrawOf m o c = [] ∧ s.withdraw m o c = s) ∨
    ∃ g k, withdrawOf m o c = [.withdraw g m.tag k] ∧ s.withdraw m o c = s.queueSync (.withdraw g m.tag k) := by
  unfold State.withdraw
  split
  · rename_i g k hg
    by_cases hk : k = .peerWithdrew
    · exact .inl (by simp [withdrawOf, hg, hk])
    · exact .inr ⟨g, k, by simp [withdrawOf, hg, hk]⟩
  · rename_i hno
    refine .inl ⟨?_, rfl⟩
    unfold withdrawOf
    split
    · exact (hno _ _ rfl ‹_› rfl).elim
    · rfl

theorem State.withdraw_of_room {s : State} (m : Move) (o : RetireOutcome) (c : Option Cause)
    (h : s.fq.count .sync + (withdrawOf m o c).length ≤ 6) :
    s.withdraw m o c = s.updFq fun q => q.pushAll (withdrawOf m o c) := by
  rcases s.withdraw_cases m o c with ⟨hw, he⟩ | ⟨g, k, hw, he⟩
  · simp [hw, he, State.updFq]
  · rw [hw, List.length_singleton] at h
    rw [he, hw, State.queueSync_of_room _ (by omega)]

theorem State.report_of_room {s : State} (w : WaitingRecord) (h : 0 < s.fq.free) :
    s.report w = s.updFq fun q => q.pushAll [.report w.origin w.record] := by
  simp [State.report, h]
  rfl

theorem length_ascending (ms : List Marker) : (ascending ms).length = ms.length := by
  simp only [ascending, List.length_append, ← List.countP_eq_length_filter]
  rw [List.length_eq_countP_add_countP fun k : Marker => decide (k.number = 0)]
  simp

/-- A retirement with room for its REPORT and its SYNC frames, block by block (R17 to R21). -/
theorem State.retire_of_room {s : State} {m : Move} {rest : List Move} (o : RetireOutcome) (c : Option Cause)
    (hq : s.mc.queue = m :: rest) (hf : 0 < s.fq.free)
    (hs : s.fq.count .sync + (withdrawOf m o c).length + (s.unreachedOf m).length ≤ 6) :
    s.retire o c =
      { s with
        fq := s.fq.pushAll (.report m.origin (s.recordOf m o c) :: (withdrawOf m o c ++
          (ascending (s.unreachedOf m)).map fun k => .mark m.tag k.number .void))
        gate := { marks := keepNamed rest s.gate.marks, timer := headTimer (keepNamed rest s.gate.marks) rest, held := none }
        roll := { s.roll with timer := none }
        mc := { s.mc with
          queue := rest, causes := causesAfter s.mc.causes c, deferredExpiry := false, kept := [], descentCause := none
          state := stateAfter (causesAfter s.mc.causes c) s.mc.holdPending rest } } := by
  unfold State.retire
  rw [hq]
  dsimp only
  rw [State.report_of_room _ hf, State.withdraw_of_room, State.voidAll_of_room] <;>
    try rw [length_ascending]
  · simp [State.updFq, State.updGate, State.updRoll, State.updMc, FrameQueue.pushAll_pushAll]
  all_goals
    have h1 : (s.fq.pushAll [.report m.origin (s.recordOf m o c)]).count .sync = s.fq.count .sync :=
      FrameQueue.count_pushAll_of_ne (by simp [OutFrame.cls]) _
  · have h2 := (s.fq.pushAll [.report m.origin (s.recordOf m o c)]).count_pushAll_le (withdrawOf m o c) .sync
    simp only [State.updFq_fq]
    omega
  · simp only [State.updFq_fq]
    omega

end Sys2Proof.Machine
end
section
/-! The end of the head and the checks before it starts (R12 to R21). -/

-- One proof after another: elaborated side by side they need more threads than the check allows.
set_option deprecated.oldSectionVars true

namespace Sys2Proof.Machine

theorem NodeState.moving_eq (st : NodeState) : st.moving = decide (st = .running ∨ st = .stopping) := by
  cases st <;> rfl

/-- Settles O20: the retirement with room, read block by block. -/
theorem retirementOfTheHead : Obligations.RetirementOfTheHead := by
  intro s m rest o c hq hf started record withdraw left voids causes marks hs
  have hstarted : started = s.mc.state.moving := (NodeState.moving_eq _).symm
  have hw : withdraw = withdrawOf m o c := rfl
  have hl : left = s.unreachedOf m := by simp only [left, hstarted]; rfl
  have hr : record = s.recordOf m o c := by simp only [record, hstarted]; rfl
  have hv : voids = (ascending (s.unreachedOf m)).map fun k => .mark m.tag k.number .void := by
    simp only [voids, hl, ascending]
  have hlen : voids.length = (s.unreachedOf m).length := by rw [hv, List.length_map, length_ascending]
  rw [State.retire_of_room o c hq hf (by rw [← hw, ← hlen]; exact hs), ← hr, ← hv, ← hw]
  cases rest <;> cases c <;> rfl

/-! ## The arming checks -/

/-- The end of an asserted limit's side (R13, R82). -/
theorem State.limitInTheWay_iff (s : State) (d : Int) :
    s.limitInTheWay d = true ↔ (0 < d ∧ s.asserted .limp = true) ∨ (d < 0 ∧ s.asserted .limn = true) := by
  simp [State.limitInTheWay, limitAhead]

theorem State.outsideSoft_iff (s : State) (x : Int) :
    s.outsideSoft x = true ↔ ∃ r ∈ s.softLimits, x < r.softMin ∨ r.softMax < x := by
  unfold State.outsideSoft
  cases s.softLimits <;> simp

theorem Gate.voided_iff (marks : List MarkRecord) (g : Gate) :
    g.voided marks = true ↔ ∃ r ∈ marks, g.names r = true ∧ r.outcome = .void := by
  simp [Gate.voided]

theorem GroupEntry.mismatch_iff (e : GroupEntry) (self : Addr) (t : Tag) :
    e.mismatch self t = true ↔ ∃ r ∈ e.roll, r.addr ≠ self ∧ ∃ x ∈ r.tag, x ≠ t := by
  have hr (r : RollEntry) : (match r.tag with | some x => decide (x ≠ t) | none => false) = true ↔ ∃ x ∈ r.tag, x ≠ t := by
    cases r.tag <;> simp
  unfold GroupEntry.mismatch
  simp only [List.any_eq_true, Bool.and_eq_true, decide_eq_true_eq]
  exact exists_congr fun r => and_congr_right fun _ => and_congr_right fun _ => hr r

/-- Settles O21: the checks are a list read in order, and a READY without room leaves the LINK cause due. -/
theorem armingChecks : Obligations.ArmingChecks := by
  intro s m stop entry cause announced lost
  have hc : firstFailing (s.armingChecks m) = cause := by
    have hcheck {p : GroupEntry → Bool} {q : GroupEntry → Prop} (hpq : ∀ e, p e = true ↔ q e) :
        (match entry with | some e => p e | none => false) = true ↔ ∃ e ∈ entry, q e := by
      cases entry <;> simp [hpq]
    refine if_congr ?_ rfl (if_congr ?_ rfl (if_congr (hcheck fun e => ?_) rfl (if_congr (s.limitInTheWay_iff _) rfl
      (if_congr ?_ rfl (if_congr ?_ rfl (if_congr (hcheck fun e => e.mismatch_iff _ _) rfl rfl))))))
    · simp [Option.isSome_iff_ne_none]
    · simp only [List.any_eq_true, Gate.voided_iff]
    · simp
    · rw [Bool.and_eq_true, decide_eq_true_eq, State.outsideSoft_iff]
    · rw [Bool.or_eq_true, decide_eq_true_eq, decide_eq_true_eq]
      rfl
  have hl : s.updMc (fun c => { c with linkDue := true }) = lost := rfl
  refine ⟨?_, fun hp => ?_⟩
  · unfold State.armHead
    rw [hc]
    cases cause with
    | some c => rfl
    | none =>
      cases m.group with
      | none => rfl
      | some g => rfl
  · rw [State.giveLink_of_due rfl]
    simp [State.takeLink, State.linkCause, lost, hp, State.hold, State.addCause, State.updMc]

end Sys2Proof.Machine
end

section
/-! LOAD: its checks in order, and the append (R5 to R8). -/

-- One proof after another: elaborated side by side they need more threads than the check allows.
set_option deprecated.oldSectionVars true

namespace Sys2Proof.Machine

theorem lineOf_eq (n : Nat) : lineOf n = if n = 1 then some .mko0 else if n = 2 then some .mko1 else none := by
  unfold lineOf
  split
  · rfl
  · rfl
  · rename_i h1 h2
    rw [if_neg h1, if_neg h2]

/-- What LOAD comes to in the hands of the Move Controller: the first refusal, or the append (R5, R6). -/
theorem State.loadAct_eq (src : Addr) (f : LoadFields) (s : State) :
    s.loadAct src f =
      match (if s.mc.state = .unconfigured then some .notConfigured else firstFailing (s.loadChecks f (moveOf src f))) with
      | some r => s.refuse r
      | none => (s.append (moveOf src f), .ack (some (s.mc.queue.length + 1))) := by
  unfold State.loadAct
  split
  · rfl
  · split <;> simp_all

/-- A state answered with nothing left to do has nothing left to do. -/
theorem State.answered_settled {s : State} (src : Addr) {f : OutFrame} (h : s.settled) (hf : f.cls = .reply) :
    (s.answered src f).settled :=
  h.of_frame rfl rfl (FrameQueue.free_fill_le _ hf) ((s.fq.count_push f .urgent).trans (by simp [hf]))

theorem State.groupEntry_isNone_iff (s : State) (g : GroupNo) :
    (s.groupEntry g).isNone = true ↔ ∀ e ∈ s.roll.groups, e.number ≠ g := by
  simp [State.groupEntry]

theorem State.endsOutside_iff (s : State) (m : Move) :
    s.endsOutside m = true ↔
      m.kind = .travel ∧ ∃ x ∈ s.plannedEnd, ∃ r ∈ s.softLimits, x + m.dist < r.softMin ∨ r.softMax < x + m.dist := by
  unfold State.endsOutside
  cases s.plannedEnd <;> simp [State.outsideSoft_iff]

/-- The append, with the gate wait timer of a new head (R3, R5, R56). -/
theorem State.append_eq (m : Move) (s : State) :
    s.append m =
      { s with
        gate := { s.gate with timer :=
          if s.mc.queue ≠ [] then s.gate.timer else if m.decided s.gate.marks = true then none else m.waitLimit }
        mc := { s.mc with queue := s.mc.queue ++ [m]
                          state := if s.mc.queue = [] ∧ s.mc.state = .idle then .pending else s.mc.state } } := by
  unfold State.append
  split
  · rename_i hq
    by_cases hs : s.mc.state = .idle <;> simp [hq, hs, State.updGate, State.updMc, headTimer]
  · have hq : s.mc.queue ≠ [] := ‹_›
    simp [hq, State.updMc]

/-- Settles O30: the checks are a list read in order, and the appended move is a head only of an empty queue. -/
theorem loadChecksAndAppends : Obligations.LoadChecksAndAppends := by
  intro src num f s h hset m unstarted reason acked appended
  have hm : moveOf src f = m := by
    simp only [moveOf, lineOf_eq, m]
  have hreason : (if (s.opened src).mc.state = .unconfigured then some .notConfigured
      else firstFailing ((s.opened src).loadChecks f m)) = reason := by
    refine if_congr Iff.rfl rfl (if_congr Iff.rfl rfl (if_congr ?_ rfl (if_congr ?_ rfl (if_congr ?_ rfl
      (if_congr ?_ rfl (if_congr ?_ rfl (if_congr ?_ rfl (if_congr ?_ rfl (if_congr ?_ rfl rfl)))))))))
    · rw [Bool.not_eq_true']
      rfl
    · simp [Option.isSome_iff_ne_none]
    · simp
    · cases m.group with
      | none => simp
      | some g => simpa using (s.opened src).groupEntry_isNone_iff g
    · simp
    · simp [Config.queueDepth]
    · rw [decide_eq_true_eq]
      rfl
    · exact (s.opened src).endsOutside_iff m
  have hexec : exec (.load src num f) s =
      .next (s.request src num .load (State.loadAct src f) State.finish) := rfl
  have hfin {u : State} (hu : u.settled) (hi : u.link.idleCount = 0) : u.finish = u :=
    State.finish_of_settled_of_not_idle hu (by simp [hi])
  rw [State.request_of_takes h, State.loadAct_eq, hm, hreason] at hexec
  have happ (hr : reason = none) : exec (.load src num f) s = .next appended.finish := by
    rw [hexec, hr]
    exact congrArg (fun u : State => Host.Outcome.next (u.fill _).finish) (State.append_eq m _)
  refine ⟨fun r hr => ?_, fun hr => ⟨happ hr, fun hno => ?_⟩⟩
  · rw [hexec, hr]
    exact congrArg _ (hfin (State.answered_settled src hset rfl) rfl)
  · have hack : acked.settled := State.answered_settled src hset rfl
    rw [happ hr, hfin _ rfl]
    refine ⟨hset.1, fun hp x hx => ?_, hack.2.2⟩
    by_cases hq : s.mc.queue = []
    · rcases hno with hno | hno | hno
      · exact absurd hq hno
      · simp [appended, hno] at hp
      · have hx : m = x := by simpa [appended, hq] using hx
        exact hx ▸ hno
    · have hp' : s.mc.state = .pending := by simpa [appended, hq] using hp
      have hx' : x ∈ s.mc.queue.head? := by simpa [appended, List.head?_append_of_ne_nil _ hq] using hx
      exact hack.2.1 hp' x hx'

end Sys2Proof.Machine
end

section
/-! SUPPORT. What the operations on the head, the notices and the peers do to the Frame Queue: none of them begins or ends an
attempt or touches the reservation (R137, R156), and those that queue or remove frames of other kinds leave the READYs and
the free count alone. -/

-- One proof after another: elaborated side by side they need more threads than the check allows.
set_option deprecated.oldSectionVars true

namespace Sys2Proof.Machine

namespace FrameQueue

/-- The entry in transmission and the reservation stay (R137, R156). -/
structure KeepsFlight (q r : FrameQueue) : Prop where
  flight   : r.inFlight = q.inFlight
  reserved : r.reserved = q.reserved

/-- The READYs stay too (R32). -/
structure KeepsReadies (q r : FrameQueue) : Prop extends KeepsFlight q r where
  readies : r.readies = q.readies

/-- The free count of the REPLY share stays too (R156). -/
structure KeepsRoom (q r : FrameQueue) : Prop extends KeepsReadies q r where
  free : r.free = q.free

theorem KeepsFlight.refl (q : FrameQueue) : KeepsFlight q q := ⟨rfl, rfl⟩

theorem KeepsReadies.refl (q : FrameQueue) : KeepsReadies q q := ⟨.refl q, rfl⟩

theorem KeepsRoom.refl (q : FrameQueue) : KeepsRoom q q := ⟨.refl q, rfl⟩

theorem KeepsFlight.trans {q r t : FrameQueue} (h : KeepsFlight q r) (h' : KeepsFlight r t) : KeepsFlight q t :=
  ⟨h'.flight.trans h.flight, h'.reserved.trans h.reserved⟩

theorem KeepsReadies.trans {q r t : FrameQueue} (h : KeepsReadies q r) (h' : KeepsReadies r t) : KeepsReadies q t :=
  ⟨h.toKeepsFlight.trans h'.toKeepsFlight, h'.readies.trans h.readies⟩

theorem KeepsRoom.trans {q r t : FrameQueue} (h : KeepsRoom q r) (h' : KeepsRoom r t) : KeepsRoom q t :=
  ⟨h.toKeepsReadies.trans h'.toKeepsReadies, h'.free.trans h.free⟩

/-! ## The queue's own operations -/

theorem keepsFlight_push (q : FrameQueue) (f : OutFrame) : KeepsFlight q (q.push f) := ⟨by simp, rfl⟩

theorem keepsReadies_push (q : FrameQueue) (f : OutFrame) (h : f.isReady = false) : KeepsReadies q (q.push f) :=
  ⟨q.keepsFlight_push f, by simp [h]⟩

theorem keepsRoom_push (q : FrameQueue) (f : OutFrame) (hr : f.isReady = false) (hc : f.cls ≠ .reply) :
    KeepsRoom q (q.push f) := ⟨q.keepsReadies_push f hr, q.free_push_of_ne hc⟩

theorem keepsFlight_removeQueued (q : FrameQueue) (pick : OutFrame → Bool) : KeepsFlight q (q.removeQueued pick) :=
  ⟨by simp, rfl⟩

theorem keepsRoom_changeHalt (q : FrameQueue) (g : GroupNo) (n : NoticeContent) : KeepsRoom q (q.changeHalt g n) :=
  ⟨⟨⟨by simp, rfl⟩, by simp⟩, by simp⟩

theorem free_removeQueued (q : FrameQueue) {pick : OutFrame → Bool} (h : ∀ f, pick f = true → f.cls ≠ .reply) :
    (q.removeQueued pick).free = q.free := by
  refine free_congr ?_ rfl
  simp only [count, removeQueued, List.countP_filter]
  refine List.countP_congr fun e _ => ?_
  have := h e.frame
  cases hp : pick e.frame <;> simp_all

/-- Removing frames that are neither READYs nor replies. -/
theorem keepsRoom_removeQueued (q : FrameQueue) (pick : OutFrame → Bool)
    (h : ∀ f, pick f = true → f.isReady = false ∧ f.cls ≠ .reply) : KeepsRoom q (q.removeQueued pick) :=
  ⟨⟨q.keepsFlight_removeQueued pick, q.readies_removeQueued fun f hf => (h f hf).1⟩,
    q.free_removeQueued fun f hf => (h f hf).2⟩

/-- A READY is in transmission, or queued, or has left (R32, R137). -/
theorem length_readies (q : FrameQueue) :
    q.readies.length = (q.inFlight.countP fun e => e.frame.isReady) + q.endSending.readies.length := by
  unfold readies inFlight endSending
  dsimp only
  simp only [← List.countP_eq_length_filter, List.countP_map, List.countP_filter]
  induction q.entries with
  | nil => rfl
  | cons e es ih => cases hs : e.status <;> cases hr : e.frame.isReady <;> simp_all <;> omega

end FrameQueue

/-! ## The head's frames -/

theorem State.queueSync_keepsRoom (f : OutFrame) (hr : f.isReady = false) (hc : f.cls ≠ .reply) (s : State) :
    s.fq.KeepsRoom (s.queueSync f).fq := by
  unfold State.queueSync
  split
  · exact s.fq.keepsRoom_push f hr hc
  · exact .refl _

theorem State.reachAll_keepsRoom (t : Tag) (ms : List Marker) (s : State) : s.fq.KeepsRoom (s.reachAll t ms).fq := by
  induction ms generalizing s with
  | nil => exact .refl _
  | cons m ms ih =>
    exact (State.queueSync_keepsRoom (.mark t m.number .reached) rfl (by simp [OutFrame.cls]) s).trans
      (ih ((s.queueSync _).updOut _))

theorem State.reach_keepsRoom (p : Marker → Bool) (s : State) : s.fq.KeepsRoom (s.reach p).fq := by
  unfold State.reach
  split
  · exact .refl _
  · exact State.reachAll_keepsRoom _ _ s

theorem State.voidAll_keepsRoom (t : Tag) (ms : List Marker) (s : State) : s.fq.KeepsRoom (s.voidAll t ms).fq := by
  induction ms generalizing s with
  | nil => exact .refl _
  | cons m ms ih =>
    exact (State.queueSync_keepsRoom (.mark t m.number .void) rfl (by simp [OutFrame.cls]) s).trans (ih _)

theorem State.withdraw_keepsRoom (m : Move) (o : RetireOutcome) (c : Option Cause) (s : State) :
    s.fq.KeepsRoom (s.withdraw m o c).fq := by
  rcases s.withdraw_cases m o c with ⟨-, h⟩ | ⟨g, k, -, h⟩
  · rw [h]
    exact .refl _
  · rw [h]
    exact State.queueSync_keepsRoom (.withdraw g m.tag k) rfl (by simp [OutFrame.cls]) s

theorem State.report_keepsReadies (w : WaitingRecord) (s : State) : s.fq.KeepsReadies (s.report w).fq := by
  unfold State.report
  split
  · exact s.fq.keepsReadies_push _ rfl
  · exact .refl _

/-- The frames of a retirement are a REPORT, a WITHDRAW and MARKs (R17, R21). -/
theorem State.retire_keepsReadies (o : RetireOutcome) (c : Option Cause) (s : State) : s.fq.KeepsReadies (s.retire o c).fq := by
  unfold State.retire
  split
  · exact .refl _
  · exact ((State.report_keepsReadies _ s).trans (State.withdraw_keepsRoom _ o c _).toKeepsReadies).trans
      (State.voidAll_keepsRoom _ _ _).toKeepsReadies

theorem State.replyFreed_keepsReadies (s : State) : s.fq.KeepsReadies s.replyFreed.fq := by
  unfold State.replyFreed
  split
  · exact .refl _
  · split
    · dsimp only
      split
      · exact (s.fq.keepsReadies_push _ rfl).trans (((s.push _).updMc _).retire_keepsReadies _ _)
      · exact s.fq.keepsReadies_push _ rfl
    · exact .refl _

theorem State.haltMove_keepsReadies (c : Cause) (s : State) : s.fq.KeepsReadies (s.haltMove c).fq := by
  unfold State.haltMove
  split
  · split <;> exact s.stopLead.retire_keepsReadies _ _
  · exact .refl _

theorem State.haltDescent_keepsReadies (c : Cause) (s : State) : s.fq.KeepsReadies (s.haltDescent c).fq := by
  unfold State.haltDescent
  split
  · exact s.haltMove_keepsReadies c
  · exact .refl _

/-! ## Notices -/

theorem State.raiseNotice_keepsRoom (g : GroupNo) (n : NoticeContent) (d : Bool) (s : State) :
    s.fq.KeepsRoom (s.raiseNotice g n d).fq := by
  unfold State.raiseNotice
  split
  · exact .refl _
  · split
    · exact .refl _
    · exact s.fq.keepsRoom_changeHalt _ _

theorem State.notify_keepsRoom (m : Move) (k : HaltKind) (c : Cause) (d : Bool) (s : State) :
    s.fq.KeepsRoom (s.notify m k c d).fq := by
  unfold State.notify
  split
  · exact s.raiseNotice_keepsRoom _ _ _
  · exact .refl _

theorem State.noticeReturned_keepsRoom (g : GroupNo) (s : State) : s.fq.KeepsRoom (s.noticeReturned g).fq := by
  unfold State.noticeReturned
  split
  · split
    · exact s.fq.keepsRoom_changeHalt _ _
    · exact .refl _
  · exact .refl _

theorem State.noticeDiscarded_keepsRoom (g : GroupNo) (s : State) : s.fq.KeepsRoom (s.noticeDiscarded g).fq := by
  unfold State.noticeDiscarded
  split
  · exact (s.updMc _).raiseNotice_keepsRoom _ _ _
  · exact .refl _

theorem State.haltMeetsNotice_keepsRoom (g : GroupNo) (k : HaltKind) (s : State) :
    s.fq.KeepsRoom (s.haltMeetsNotice g k).fq := by
  unfold State.haltMeetsNotice
  split
  · split
    · exact s.fq.keepsRoom_removeQueued _ fun f hf =>
        ⟨OutFrame.isReady_of_isHaltFor hf, by simp [OutFrame.isHaltFor_cls hf]⟩
    · exact .refl _
  · exact .refl _

theorem State.fillUrgent_keepsRoom (s : State) : s.fq.KeepsRoom s.fillUrgent.fq :=
  ⟨⟨⟨s.fillUrgent_fq.2.2.1, s.fillUrgent_fq.2.1⟩, s.fillUrgent_fq.2.2.2⟩, s.fillUrgent_fq.1⟩

/-! ## The ends of a head -/

theorem State.stopMove_keepsReadies (c : Cause) (d : Bool) (s : State) : s.fq.KeepsReadies (s.stopMove c d).fq := by
  unfold State.stopMove
  split
  · exact (s.haltMove_keepsReadies c).trans (State.notify_keepsRoom _ _ _ _ _).toKeepsReadies
  · exact .refl _

theorem State.rampMove_keepsReadies (c : Cause) (s : State) : s.fq.KeepsReadies (s.rampMove c).fq := by
  unfold State.rampMove
  split
  · exact (State.haltDescent_keepsReadies c (s.addCause c)).trans (State.notify_keepsRoom _ _ _ _ _).toKeepsReadies
  · exact .refl _

theorem State.giveUp_keepsFlight (o : RetireOutcome) (c : Cause) (l : List Cause) (s : State) :
    s.fq.KeepsFlight (s.giveUp o c l).fq := by
  have h := (s.fq.keepsFlight_removeQueued OutFrame.isReady).trans
    (State.retire_keepsReadies o (some c) s.removeReady).toKeepsFlight
  simpa [State.giveUp] using h

theorem State.failAnnounced_keepsFlight (c : Cause) (s : State) : s.fq.KeepsFlight (s.failAnnounced c).fq := by
  unfold State.failAnnounced
  split
  · exact .refl _
  · exact s.giveUp_keepsFlight _ _ _

theorem State.linkCause_keepsFlight (s : State) : s.fq.KeepsFlight s.linkCause.fq := by
  unfold State.linkCause
  split
  case h_2 | h_3 => exact (State.hold_frame .link s).2.1 ▸ .refl _
  case h_4 => split <;> exact s.giveUp_keepsFlight _ _ _
  case h_5 => exact s.giveUp_keepsFlight _ _ _
  case h_6 | h_7 => exact (s.stopMove_keepsReadies _ _).toKeepsFlight
  all_goals exact .refl _

theorem State.giveLink_keepsFlight (s : State) : s.fq.KeepsFlight s.giveLink.fq := by
  unfold State.giveLink
  split
  · exact s.linkCause_keepsFlight
  · exact .refl _

/-! ## Arming -/

theorem State.completeSeek_keepsReadies (s : State) : s.fq.KeepsReadies s.completeSeek.fq :=
  (State.reach_keepsRoom _ (s.stopLead.updLead _)).toKeepsReadies.trans (State.retire_keepsReadies _ _ _)

theorem State.startSolo_keepsReadies (m : Move) (s : State) : s.fq.KeepsReadies (s.startSolo m).fq := by
  unfold State.startSolo
  split
  · exact (s.startMove m).completeSeek_keepsReadies
  · exact .refl _

theorem State.armHead_keepsFlight (m : Move) (s : State) : s.fq.KeepsFlight (s.armHead m).fq := by
  unfold State.armHead
  split
  · exact (s.retire_keepsReadies _ _).toKeepsFlight
  · split
    · unfold State.announce
      split
      · exact s.fq.keepsFlight_push _
      · exact .refl _
    · exact (s.startSolo_keepsReadies m).toKeepsFlight

theorem State.settle_keepsFlight (n : Nat) (s : State) : s.fq.KeepsFlight (s.settle n).fq := by
  induction n generalizing s with
  | zero => exact s.giveLink_keepsFlight
  | succ n ih =>
    simp only [State.settle]
    split
    · split
      · exact (s.giveLink_keepsFlight.trans (State.armHead_keepsFlight _ _)).trans (ih _)
      · exact s.giveLink_keepsFlight
    · exact s.giveLink_keepsFlight

/-- What follows an event on a bus that is not idle begins no attempt (R137). -/
theorem State.finish_keepsFlight {s : State} (h : s.link.idleCount ≠ 12) : s.fq.KeepsFlight s.finish.fq := by
  have hl : ((s.settle s.mc.queue.length).fillUrgent).link.idleCount ≠ 12 := by simpa using h
  rw [State.finish, State.offer_of_not_idle hl]
  exact (s.settle_keepsFlight _).trans (State.fillUrgent_keepsRoom _).toKeepsFlight

/-! ## Peers -/

theorem State.groupBroken_keepsFlight (g : GroupNo) (s : State) : s.fq.KeepsFlight (s.groupBroken g).fq := by
  unfold State.groupBroken
  split
  · split
    · exact (s.rampMove_keepsReadies _).toKeepsFlight
    · exact s.failAnnounced_keepsFlight _
    · exact s.failAnnounced_keepsFlight _
    · exact .refl _
  · exact .refl _

theorem State.presenceInGroup_keepsFlight (a : Addr) (lost : Bool) (s : State) (g : GroupNo) :
    s.fq.KeepsFlight (s.presenceInGroup a lost g).fq := by
  unfold State.presenceInGroup
  split
  · exact .refl _
  · dsimp only
    split
    · exact State.groupBroken_keepsFlight g (s.updGroup g _)
    · exact .refl _

theorem State.presenceInGroups_keepsFlight (a : Addr) (lost : Bool) (gs : List GroupNo) (s : State) :
    s.fq.KeepsFlight (gs.foldl (State.presenceInGroup a lost) s).fq := by
  induction gs generalizing s with
  | nil => exact .refl _
  | cons g gs ih => exact (s.presenceInGroup_keepsFlight a lost g).trans (ih _)

theorem State.setPresence_keepsFlight (a : Addr) (p : Presence) (s : State) : s.fq.KeepsFlight (s.setPresence a p).fq := by
  unfold State.setPresence
  split
  · exact .refl _
  · split
    · exact .refl _
    · exact State.presenceInGroups_keepsFlight a _ _ (s.updPeerEntry a _)

theorem State.hear_keepsFlight (src : Addr) (h : Heard) (s : State) : s.fq.KeepsFlight (s.hear src h).fq := by
  unfold State.hear
  dsimp only
  split
  · exact State.setPresence_keepsFlight src _ (s.updPeerEntry src _)
  · exact .refl _

end Sys2Proof.Machine
end

section
/-! SUPPORT. What holds of the node in the midst of an event: the invariants of the move queue, the lead, the marks, the
notices, the causes, the REPLY room and the READY, stated so that the operations of an event keep them one by one, with the
facts of the tables and the Frame Queue that they need. -/

-- One proof after another: elaborated side by side they need more threads than the check allows.
set_option deprecated.oldSectionVars true

namespace Sys2Proof.Machine

/-! ## The mark list and the notice list -/

/-- A mark list as the entries that have not started allow it (R7, R51). -/
def marksFit (ms : List Move) (marks : List MarkRecord) : Prop :=
  marks.length ≤ 8 ∧ (marks.map fun r => (r.source, r.tag, r.marker)).Nodup ∧ (∀ r ∈ marks, namedBy ms r = true) ∧
  (ms.flatMap (·.gates)).dedup.length ≤ 8

theorem namedBy_iff {ms : List Move} {r : MarkRecord} :
    namedBy ms r = true ↔ (⟨r.source, r.tag, r.marker⟩ : Gate) ∈ ms.flatMap (·.gates) := by
  have hnames (g : Gate) : g.names r = true ↔ g = ⟨r.source, r.tag, r.marker⟩ := by
    cases g
    simp [Gate.names, and_assoc]
  simp only [namedBy, List.any_eq_true, List.mem_flatMap, hnames]
  exact exists_congr fun m => and_congr_right fun _ => by simp

/-- Records of distinct identities that the gates name are no more than the marks that the gates name (R7, R51). -/
theorem length_marks_le {ms : List Move} {marks : List MarkRecord}
    (hd : (marks.map fun r => (r.source, r.tag, r.marker)).Nodup) (hn : ∀ r ∈ marks, namedBy ms r = true) :
    marks.length ≤ (ms.flatMap (·.gates)).dedup.length := by
  let toGate : Addr × Tag × Nat → Gate := fun x => ⟨x.1, x.2.1, x.2.2⟩
  have hinj : Function.Injective toGate := by
    rintro ⟨a, b, c⟩ ⟨a', b', c'⟩ h
    simpa [toGate] using h
  have hsub : (marks.map fun r => (r.source, r.tag, r.marker)).map toGate ⊆ (ms.flatMap (·.gates)).dedup := by
    intro g hg
    simp only [List.mem_map] at hg
    obtain ⟨-, ⟨r, hr, rfl⟩, rfl⟩ := hg
    exact List.mem_dedup.mpr (namedBy_iff.mp (hn r hr))
  simpa using ((hd.map hinj).subperm hsub).length_le

/-- The records that fewer entries still name (R53). -/
theorem marksFit.keepNamed {ms rest : List Move} {marks : List MarkRecord} (h : marksFit ms marks) (hs : rest ⊆ ms) :
    marksFit rest (keepNamed rest marks) := by
  obtain ⟨hl, hd, -, hg⟩ := h
  have hsub : (rest.flatMap (·.gates)).dedup ⊆ (ms.flatMap (·.gates)).dedup := by
    intro g hm
    obtain ⟨m, hr, hm⟩ := List.mem_flatMap.mp (List.mem_dedup.mp hm)
    exact List.mem_dedup.mpr (List.mem_flatMap.mpr ⟨m, hs hr, hm⟩)
  exact ⟨(List.length_filter_le ..).trans hl, hd.sublist (List.filter_sublist.map _),
    fun r hr => (List.mem_filter.mp hr).2, ((List.nodup_dedup _).subperm hsub).length_le.trans hg⟩

/-- A record that is named and whose identity is new joins the list (R52). -/
theorem marksFit.append_mark {ms : List Move} {marks : List MarkRecord} {r : MarkRecord} (h : marksFit ms marks)
    (hr : namedBy ms r = true)
    (hnew : ∀ x ∈ marks, ¬(x.source = r.source ∧ x.tag = r.tag ∧ x.marker = r.marker)) :
    marksFit ms (marks ++ [r]) := by
  obtain ⟨-, hd, hn, hg⟩ := h
  have hd' : ((marks ++ [r]).map fun r => (r.source, r.tag, r.marker)).Nodup := by
    rw [List.map_append, List.nodup_append]
    refine ⟨hd, by simp, ?_⟩
    rintro y hx z hy rfl
    simp only [List.map_cons, List.map_nil, List.mem_map, List.mem_singleton] at hx hy
    obtain ⟨x, hx, he⟩ := hx
    exact hnew x hx (by simpa [hy] using he)
  have hn' : ∀ x ∈ marks ++ [r], namedBy ms x = true := by
    simp only [List.mem_append, List.mem_singleton]
    rintro x (hx | rfl)
    · exact hn x hx
    · exact hr
  exact ⟨(length_marks_le hd' hn').trans hg, hd', hn', hg⟩

/-- An entry joins whose gates leave no more than 8 marks named (R6, R7). -/
theorem marksFit.append_move {ms : List Move} {marks : List MarkRecord} {m : Move} (h : marksFit ms marks)
    (hg : ((ms ++ [m]).flatMap (·.gates)).dedup.length ≤ 8) : marksFit (ms ++ [m]) marks := by
  obtain ⟨hl, hd, hn, -⟩ := h
  refine ⟨hl, hd, fun r hr => ?_, hg⟩
  have := namedBy_iff.mp (hn r hr)
  rw [namedBy_iff, List.flatMap_append, List.mem_append]
  exact .inl this

/-- Entries with the same gates allow the same marks. -/
theorem marksFit.of_gates {ms ns : List Move} {marks : List MarkRecord} (h : marksFit ms marks)
    (hg : ns.flatMap (·.gates) = ms.flatMap (·.gates)) : marksFit ns marks := by
  obtain ⟨hl, hd, hn, hc⟩ := h
  exact ⟨hl, hd, fun r hr => namedBy_iff.mpr (hg ▸ namedBy_iff.mp (hn r hr)), hg ▸ hc⟩

/-- A notice, and the upgrade held for it, says a cause that a HALT notice can carry (R93, R107). -/
def Notice.ok (n : Notice) : Prop :=
  causeInNotice n.content.cause = true ∧ ∀ u, n.upgrade = some u → causeInNotice u.cause = true

/-- A notice list as R93 and R107 allow it. -/
def noticesFit (ns : List Notice) : Prop := (ns.map (·.group)).Nodup ∧ ∀ n ∈ ns, n.ok

theorem noticesFit.append {ns : List Notice} {n : Notice} (h : noticesFit ns) (hn : n.ok) (hg : ∀ x ∈ ns, x.group ≠ n.group) :
    noticesFit (ns ++ [n]) := by
  refine ⟨?_, ?_⟩
  · rw [List.map_append, List.nodup_append]
    refine ⟨h.1, by simp, ?_⟩
    rintro y hx z hy rfl
    simp only [List.map_cons, List.map_nil, List.mem_map, List.mem_singleton] at hx hy
    obtain ⟨x, hx, he⟩ := hx
    exact hg x hx (by simpa [hy] using he)
  · simp only [List.mem_append, List.mem_singleton]
    rintro x (hx | rfl)
    · exact h.2 x hx
    · exact hn

/-- A change of notices that keeps each one's group and its causes sound. -/
theorem noticesFit.map {ns : List Notice} {f : Notice → Notice} (h : noticesFit ns) (hg : ∀ n, (f n).group = n.group)
    (hf : ∀ n ∈ ns, n.ok → (f n).ok) : noticesFit (ns.map f) := by
  refine ⟨?_, ?_⟩
  · rw [List.map_map, show (fun n : Notice => n.group) ∘ f = fun n => n.group from funext hg]
    exact h.1
  · simp only [List.mem_map]
    rintro - ⟨n, hn, rfl⟩
    exact hf n hn (h.2 n hn)

/-- A change of the notice for one group that keeps its group and its causes sound. -/
theorem noticesFit.change {ns : List Notice} {g : GroupNo} {f : Notice → Notice} (h : noticesFit ns)
    (hg : ∀ n, (f n).group = n.group) (hf : ∀ n ∈ ns, n.ok → (f n).ok) : noticesFit (changeNotice g f ns) := by
  refine h.map (fun n => ?_) fun n hn ho => ?_
  · split
    · exact hg n
    · rfl
  · split
    · exact hf n hn ho
    · exact ho

theorem noticesFit.without {ns : List Notice} (g : GroupNo) (h : noticesFit ns) : noticesFit (withoutNotice g ns) :=
  ⟨h.1.sublist (List.filter_sublist.map _), fun n hn => h.2 n (List.mem_of_mem_filter hn)⟩

theorem causeInNotice_mergeContent {e n : NoticeContent} (he : causeInNotice e.cause = true)
    (hn : causeInNotice n.cause = true) : causeInNotice (mergeContent e n).cause = true := by
  unfold mergeContent
  split
  · exact hn
  · exact he

theorem State.noticeFor_some {s : State} {g : GroupNo} {e : Notice} (h : s.noticeFor g = some e) :
    e ∈ s.mc.notices ∧ e.group = g :=
  ⟨List.mem_of_find?_eq_some h, by simpa using List.find?_some h⟩

theorem State.noticeFor_none {s : State} {g : GroupNo} (h : s.noticeFor g = none) : ∀ x ∈ s.mc.notices, x.group ≠ g := by
  simpa [State.noticeFor] using h

/-! ## The READY -/

/-- The READYs of the Frame Queue are that of the head while the node is ANNOUNCING, and none otherwise (R10, R32). -/
def State.readiesOk (s : State) : Prop :=
  (s.mc.state ≠ .announcing → s.fq.readies = []) ∧
  (s.mc.state = .announcing → ∃ m ∈ s.mc.queue.head?, ∃ g ∈ m.group, s.fq.readies = [.ready g m.tag])

/-- An announced head is a group move (R10, R32). -/
def State.groupedOk (s : State) : Prop := s.mc.state.announced = true → ∃ m ∈ s.mc.queue.head?, m.group ≠ none

theorem FrameQueue.mem_readies {q : FrameQueue} {f : OutFrame} :
    f ∈ q.readies ↔ f.isReady = true ∧ ∃ e ∈ q.entries, e.frame = f := by
  simp [FrameQueue.readies, and_comm]

theorem FrameQueue.length_readies_eq (q : FrameQueue) :
    q.readies.length = q.entries.countP fun e => e.frame.isReady := by
  rw [FrameQueue.readies, ← List.countP_eq_length_filter, List.countP_map]
  rfl

theorem State.readyOk_iff (s : State) : s.readyOk ↔ s.readiesOk ∧ s.groupedOk := by
  unfold State.readyOk State.readiesOk State.groupedOk
  rw [← FrameQueue.length_readies_eq]
  constructor
  · rintro ⟨h1, h2, h3⟩
    refine ⟨⟨fun hs => ?_, fun hs => ?_⟩, h3⟩
    · rw [List.eq_nil_iff_forall_not_mem]
      intro f hf
      obtain ⟨hr, e, he, rfl⟩ := FrameQueue.mem_readies.mp hf
      exact hs (h2 e he hr).1
    · obtain ⟨f, hf⟩ := List.length_eq_one_iff.mp (h1 hs)
      obtain ⟨hr, e, he, rfl⟩ := FrameQueue.mem_readies.mp (hf ▸ List.mem_singleton_self f)
      obtain ⟨-, m, hm, g, hg, hfr⟩ := h2 e he hr
      exact ⟨m, hm, g, hg, hfr ▸ hf⟩
  · rintro ⟨⟨h1, h2⟩, h3⟩
    refine ⟨fun hs => ?_, fun e he hr => ?_, h3⟩
    · obtain ⟨m, -, g, -, hf⟩ := h2 hs
      simp [hf]
    · have hmem : e.frame ∈ s.fq.readies := FrameQueue.mem_readies.mpr ⟨hr, e, he, rfl⟩
      by_cases hs : s.mc.state = .announcing
      · obtain ⟨m, hm, g, hg, hf⟩ := h2 hs
        exact ⟨hs, m, hm, g, hg, by simpa [hf] using hmem⟩
      · simp [h1 hs] at hmem

/-- No READY is in transmission. -/
def FrameQueue.calm (q : FrameQueue) : Prop := ∀ e ∈ q.inFlight, e.frame.isReady = false

theorem FrameQueue.calm_of_inFlight {q : FrameQueue} (h : q.inFlight = []) : q.calm := by simp [FrameQueue.calm, h]

theorem FrameQueue.calm_of_readies {q : FrameQueue} (h : q.readies = []) : q.calm := by
  intro e he
  by_contra hr
  have : e.frame ∈ q.readies := FrameQueue.mem_readies.mpr ⟨by simpa using hr, e, List.mem_of_mem_filter he, rfl⟩
  simp [h] at this

/-! ## The invariant -/

/-- This node is a member of every GROUP record, with an address that a member can have, and of every group table entry, and
the group of a queued move is in the group table (R6, R25, R124). -/
def State.membersOk (s : State) : Prop :=
  (∀ r ∈ s.store.groups, s.self ∈ r.members ∧ s.self ≤ 30) ∧ (∀ e ∈ s.roll.groups, s.self ∈ e.members) ∧
  ∀ m ∈ s.mc.queue, ∀ g, m.group = some g → ∃ e ∈ s.roll.groups, e.number = g

/-- The part of the invariant that does not read the Lead Generator or the READYs. -/
structure State.base (s : State) : Prop where
  queue     : s.queueOk
  marks     : marksFit s.unstarted s.gate.marks
  notices   : noticesFit s.mc.notices
  causes    : s.causesOk
  room      : s.roomOk
  grouped   : s.groupedOk
  due       : s.mc.linkDue = true → s.mc.state ≠ .announcing
  committed : s.store.committed = true ↔ s.mc.state ≠ .unconfigured
  members   : s.membersOk
  flight    : s.fq.inFlight.length ≤ 1

/-- What holds of the node in the midst of an event. -/
structure State.mid (s : State) : Prop extends s.base where
  lead    : s.leadOk
  readies : s.readiesOk

theorem State.ok.mid {s : State} (h : s.ok) : s.mid where
  queue := h.queue
  marks := h.marks
  notices := h.notices
  causes := h.causes
  room := h.room
  grouped := ((s.readyOk_iff).mp h.ready).2
  due hd := absurd hd (by simp [h.settled.1])
  committed := h.config.1
  members := by
    obtain ⟨-, hr, -, he, -, -, hq⟩ := h.tables
    exact ⟨fun r hm => ⟨(hr r hm).1, ((hr r hm).2 _ (hr r hm).1).2⟩, fun e hm => (he e hm).1, hq⟩
  flight := by
    have := h.link.2.2.1
    rwa [List.countP_eq_length_filter] at this
  lead := h.lead
  readies := ((s.readyOk_iff).mp h.ready).1

theorem State.mid.readyOk {s : State} (h : s.mid) : s.readyOk := s.readyOk_iff.mpr ⟨h.readies, h.grouped⟩

/-- What the invariant reads outside the Frame Queue and the Lead Generator is as it was, no REPLY room was taken, and at most
one entry is in transmission. -/
structure State.Agree (s t : State) : Prop where
  mc     : t.mc = s.mc := by simp
  gate   : t.gate = s.gate := by simp
  store  : t.store = s.store := by simp
  groups : t.roll.groups = s.roll.groups := by simp
  addr   : t.link.addr = s.link.addr := by simp
  free   : s.fq.free ≤ t.fq.free := by simp
  flight : t.fq.inFlight.length ≤ 1

/-- The Lead Generator and the READYs are as they were too. -/
structure State.AgreeAll (s t : State) : Prop extends State.Agree s t where
  lead    : t.lead = s.lead := by simp
  readies : t.fq.readies = s.fq.readies := by simp

theorem State.base.congr {s t : State} (h : s.base) (ha : s.Agree t) : t.base := by
  obtain ⟨queue, marks, notices, causes, room, grouped, due, committed, members, -⟩ := h
  obtain ⟨hmc, hgate, hstore, hroll, hself, hfree, hflight⟩ := ha
  have hun : t.unstarted = s.unstarted := by simp [State.unstarted, hmc]
  have hs : t.self = s.self := by simp [State.self, hself]
  refine ⟨?_, ?_, hmc ▸ notices, ?_, ?_, ?_, hmc ▸ due, by rw [hstore, hmc]; exact committed, ?_, hflight⟩
  · simpa only [State.queueOk, hmc] using queue
  · rw [hun, hgate]
    exact marks
  · simpa only [State.causesOk, hmc] using causes
  · intro hst
    rw [hmc] at hst ⊢
    rw [hgate]
    exact ⟨(room hst).1.trans_le hfree, (room hst).2⟩
  · simpa only [State.groupedOk, hmc] using grouped
  · simpa only [State.membersOk, hmc, hstore, hroll, hs] using members

theorem State.readiesOk_congr {s t : State} (h : s.readiesOk) (hmc : t.mc = s.mc) (hr : t.fq.readies = s.fq.readies) :
    t.readiesOk := by
  simpa only [State.readiesOk, hmc, hr] using h

theorem State.mid.congr {s t : State} (h : s.mid) (ha : s.AgreeAll t) : t.mid where
  tobase := h.tobase.congr ha.toAgree
  lead := by simpa only [State.leadOk, State.profileOf, ha.mc, ha.gate, ha.store, ha.lead] using h.lead
  readies := State.readiesOk_congr h.readies ha.mc ha.readies

/-- The notice list is read by its own part of the invariant only. -/
theorem State.base.of_notices {s : State} (h : s.base) (f : List Notice → List Notice) (hn : noticesFit (f s.mc.notices)) :
    (s.updMc fun m => { m with notices := f m.notices }).base :=
  ⟨h.queue, h.marks, hn, h.causes, h.room, h.grouped, h.due, h.committed, h.members, h.flight⟩

theorem State.mid.of_notices {s : State} (h : s.mid) (f : List Notice → List Notice) (hn : noticesFit (f s.mc.notices)) :
    (s.updMc fun m => { m with notices := f m.notices }).mid :=
  ⟨h.tobase.of_notices f hn, h.lead, h.readies⟩

end Sys2Proof.Machine
end

section
/-! SUPPORT. The operations on the head, the notices and the hold causes keep the invariant (R17 to R23, R41, R73, R93 to R96,
R101). -/

-- One proof after another: elaborated side by side they need more threads than the check allows.
set_option deprecated.oldSectionVars true

namespace Sys2Proof

/-- The head is announced or has started. -/
def NodeState.busy (st : NodeState) : Bool := st.announced || st.moving

theorem NodeState.busy_iff {st : NodeState} : st.busy = true ↔ st.announced = true ∨ st.moving = true := by
  simp [NodeState.busy]

theorem NodeState.ne_announcing_of_not_busy {st : NodeState} (h : st.busy = false) : st ≠ .announcing := by
  rintro rfl
  cases h

theorem NodeState.not_moving_of_not_busy {st : NodeState} (h : st.busy = false) : st.moving = false :=
  (Bool.or_eq_false_iff.mp h).2

theorem NodeState.not_moving_of_announced {st : NodeState} (h : st.announced = true) : st.moving = false := by
  cases st <;> simp_all [NodeState.announced, NodeState.moving]

theorem NodeState.ne_announcing_of_moving {st : NodeState} (h : st.moving = true) : st ≠ .announcing := by
  rintro rfl
  cases h

end Sys2Proof

namespace Sys2Proof.Machine

theorem stateAfter_ne_unconfigured (cs : CauseSet) (b : Bool) (rest : List Move) : stateAfter cs b rest ≠ .unconfigured := by
  unfold stateAfter
  repeat' split
  all_goals exact nofun

theorem busy_stateAfter (cs : CauseSet) (b : Bool) (rest : List Move) : (stateAfter cs b rest).busy = false := by
  unfold stateAfter
  repeat' split
  all_goals rfl

/-! ## Hold causes -/

theorem withCause_ne_zero (cs : CauseSet) (c : Cause) : withCause cs c ≠ 0 := by
  intro h
  have hc : causeCode c - 1 < 16 := by cases c <;> decide
  have hb := congrArg (fun x : CauseSet => x.getLsbD (causeCode c - 1)) h
  simp [withCause, hc] at hb

theorem causesAfter_ne_zero {cs : CauseSet} (h : cs ≠ 0) (c : Option Cause) : causesAfter cs c ≠ 0 := by
  cases c with
  | none => exact h
  | some c => exact withCause_ne_zero cs c

/-- A cause joins the set of a HELD node or of one whose head has started (R22, R23). -/
theorem State.addCause_causesOk {s : State} (h : s.causesOk) (hs : s.mc.state = .held ∨ s.mc.state.moving = true) (c : Cause) :
    (s.addCause c).causesOk := by
  obtain ⟨hst, -, hk⟩ := h
  refine ⟨?_, fun _ => withCause_ne_zero _ _, hk⟩
  rcases hs with hs | hs
  · simp only [State.addCause_frame, hs]
    exact withCause_ne_zero _ _
  · cases hst' : s.mc.state <;> simp_all [NodeState.moving]

theorem State.addCause_base {s : State} (h : s.base) (hs : s.mc.state = .held ∨ s.mc.state.moving = true) (c : Cause) :
    (s.addCause c).base :=
  ⟨h.queue, h.marks, h.notices, State.addCause_causesOk h.causes hs c, h.room, h.grouped, h.due, h.committed, h.members,
    h.flight⟩

theorem State.addCause_mid {s : State} (h : s.mid) (hs : s.mc.state = .held ∨ s.mc.state.moving = true) (c : Cause) :
    (s.addCause c).mid :=
  ⟨State.addCause_base h.tobase hs c, h.lead, h.readies⟩

theorem State.addCauses_mid {s : State} (h : s.mid) (hs : s.mc.state = .held ∨ s.mc.state.moving = true) (l : List Cause) :
    (s.addCauses l).mid := by
  induction l generalizing s with
  | nil => exact h
  | cons c l ih => exact ih (State.addCause_mid h hs c) (by simpa using hs)

/-! ## A node that is not busy with its head -/

/-- The lead is at rest (R65, R73). -/
def Lead.stopped (l : Lead) : Prop := l.phase = .stopped ∧ l.step = none

theorem State.unstarted_of_not_moving {s : State} (h : s.mc.state.moving = false) : s.unstarted = s.mc.queue := by
  simp [State.unstarted, h]

theorem State.lead_stopped (s : State) (h : s.leadOk) (hm : s.mc.state.moving = false) : s.lead.stopped := by
  obtain ⟨hr, hd, hs, -⟩ := h
  refine ⟨?_, hs hm⟩
  cases hp : s.lead.phase with
  | stopped => rfl
  | run => rw [hr.mp hp] at hm; cases hm
  | descent => rw [hd.mp hp] at hm; cases hm

theorem State.leadOk_of_stopped {s : State} (h : s.lead.stopped) (hm : s.mc.state.moving = false) : s.leadOk := by
  obtain ⟨hp, hs⟩ := h
  refine ⟨?_, ?_, fun _ => hs, fun hm' => by simp [hm] at hm'⟩ <;>
    refine ⟨fun h => by simp [hp] at h, fun h => ?_⟩ <;> rw [h] at hm <;> cases hm

theorem State.kept_of_not_announcing (s : State) (h : s.causesOk) (hs : s.mc.state ≠ .announcing) : s.mc.kept = [] := by
  by_contra hk
  exact hs (h.2.2.1 hk)

/-- Nothing is asked of the READYs, the lead and the REPLY room of a node that is not busy with its head, but that there is
no READY and the lead is at rest. -/
theorem State.base_of_not_busy {t : State} (hb : t.mc.state.busy = false) (queue : t.queueOk)
    (marks : marksFit t.mc.queue t.gate.marks) (notices : noticesFit t.mc.notices) (causes : t.causesOk)
    (committed : t.store.committed = true ↔ t.mc.state ≠ .unconfigured) (members : t.membersOk)
    (flight : t.fq.inFlight.length ≤ 1) : t.base where
  queue := queue
  marks := by rwa [State.unstarted_of_not_moving (NodeState.not_moving_of_not_busy hb)]
  notices := notices
  causes := causes
  room h := absurd (NodeState.busy_iff.mpr h) (by simp [hb])
  grouped h := absurd (NodeState.busy_iff.mpr (.inl h)) (by simp [hb])
  due _ := NodeState.ne_announcing_of_not_busy hb
  committed := committed
  members := members
  flight := flight

theorem State.mid_of_not_busy {t : State} (h : t.base) (hb : t.mc.state.busy = false) (hl : t.lead.stopped)
    (hr : t.fq.readies = []) : t.mid :=
  ⟨h, State.leadOk_of_stopped hl (NodeState.not_moving_of_not_busy hb),
    fun _ => hr, fun h => absurd h (NodeState.ne_announcing_of_not_busy hb)⟩

/-- A node that is neither UNCONFIGURED nor busy with its head enters HELD for a cause (R92, R97, R103). -/
theorem State.hold_mid {s : State} (h : s.mid) (hu : s.mc.state ≠ .unconfigured) (hb : s.mc.state.busy = false) (c : Cause) :
    (s.hold c).mid := by
  have hm := NodeState.not_moving_of_not_busy hb
  have ha := NodeState.ne_announcing_of_not_busy hb
  have hk := s.kept_of_not_announcing h.causes ha
  refine State.mid_of_not_busy (State.base_of_not_busy rfl h.queue ?_ h.notices ?_ ?_ h.members h.flight) rfl
    (s.lead_stopped h.lead hm) (h.readies.1 ha)
  · exact State.unstarted_of_not_moving hm ▸ h.marks
  · exact ⟨withCause_ne_zero _ _, fun _ => withCause_ne_zero _ _, fun hh => absurd hk hh, h.causes.2.2.2⟩
  · exact ⟨fun _ => by rintro ⟨⟩, fun _ => h.committed.mpr hu⟩

/-! ## Notices -/

theorem State.changeHalt_mid {s : State} (h : s.mid) (g : GroupNo) (c : NoticeContent) :
    (s.updFq fun q => q.changeHalt g c).mid :=
  h.congr { flight := by simpa using h.flight }

theorem State.raiseNotice_mid {s : State} (h : s.mid) (g : GroupNo) {n : NoticeContent} (d : Bool)
    (hc : causeInNotice n.cause = true) : (s.raiseNotice g n d).mid := by
  unfold State.raiseNotice
  split
  · rename_i hno
    exact h.of_notices (fun ns => ns ++ [_]) (h.notices.append ⟨hc, by rintro u ⟨⟩⟩ (State.noticeFor_none hno))
  · rename_i e he
    have heok := h.notices.2 e (State.noticeFor_some he).1
    have hm := causeInNotice_mergeContent heok.1 hc
    split
    · refine h.of_notices (changeNotice g _) (h.notices.change (fun _ => rfl) fun x _ hx => ⟨hx.1, fun u hu => ?_⟩)
      cases hup : e.upgrade with
      | none =>
        simp only [heldUpgrade, hup, Option.some.injEq] at hu
        exact hu ▸ hc
      | some v =>
        simp only [heldUpgrade, hup, Option.some.injEq] at hu
        exact hu ▸ causeInNotice_mergeContent (heok.2 v hup) hc
    · refine State.changeHalt_mid (h.of_notices (changeNotice g _) ?_) _ _
      exact h.notices.change (fun _ => rfl) fun x _ hx => ⟨hm, hx.2⟩

theorem State.notify_mid {s : State} (h : s.mid) (m : Move) (k : HaltKind) {c : Cause} (d : Bool)
    (hc : causeInNotice c = true) : (s.notify m k c d).mid := by
  unfold State.notify
  split
  · exact State.raiseNotice_mid h _ _ hc
  · exact h

theorem State.noticeReturned_mid {s : State} (h : s.mid) (g : GroupNo) : (s.noticeReturned g).mid := by
  unfold State.noticeReturned
  split
  · rename_i e he
    split
    · rename_i u hu
      have heok := h.notices.2 e (State.noticeFor_some he).1
      refine State.changeHalt_mid (h.of_notices (changeNotice g _) ?_) _ _
      exact h.notices.change (fun _ => rfl) fun x _ _ =>
        ⟨causeInNotice_mergeContent heok.1 (heok.2 u hu), by rintro u ⟨⟩⟩
    · exact h
  · exact h

theorem State.noticeTaken_mid {s : State} (h : s.mid) (g : GroupNo) : (s.noticeTaken g).mid := by
  unfold State.noticeTaken
  split
  · rename_i e he
    obtain ⟨hmem, hg⟩ := State.noticeFor_some he
    refine h.of_notices (fun ns => withoutNotice g ns ++ upgradeAfterTake e) ?_
    have hw := h.notices.without g
    unfold upgradeAfterTake
    split
    · rename_i u hu
      split
      · refine hw.append ⟨(h.notices.2 e hmem).2 u hu, by rintro u ⟨⟩⟩ fun x hx => ?_
        simpa [hg] using (List.mem_filter.mp hx).2
      · simpa using hw
    · simpa using hw
  · exact h

theorem State.noticeDiscarded_mid {s : State} (h : s.mid) (g : GroupNo) : (s.noticeDiscarded g).mid := by
  unfold State.noticeDiscarded
  split
  · exact State.raiseNotice_mid (h.of_notices (withoutNotice g) (h.notices.without g)) _ _ rfl
  · exact h

theorem State.haltMeetsNotice_mid {s : State} (h : s.mid) (g : GroupNo) (k : HaltKind) : (s.haltMeetsNotice g k).mid := by
  unfold State.haltMeetsNotice
  split
  · split
    · have h' := h.of_notices (withoutNotice g) (h.notices.without g)
      have hk := s.fq.keepsRoom_removeQueued (OutFrame.isHaltFor g) fun f hf =>
        ⟨OutFrame.isReady_of_isHaltFor hf, by simp [OutFrame.isHaltFor_cls hf]⟩
      exact h'.congr { free := hk.free.ge, readies := hk.readies, flight := by simpa using h.flight }
    · exact h
  · exact h

theorem State.releaseDeferred_mid {s : State} (h : s.mid) : s.releaseDeferred.mid :=
  h.of_notices (List.map _) (h.notices.map (fun n => by split <;> rfl) fun n _ hn => by
    split
    · exact hn
    · exact hn)

theorem State.fillUrgent_mid {s : State} (h : s.mid) : s.fillUrgent.mid := by
  rcases s.fillUrgent_cases with ⟨he, -⟩ | ⟨n, -, -, he⟩
  · rwa [he]
  · have hk := s.fq.keepsRoom_push (.halt n.group n.content.kind n.content.cause n.content.tag) rfl
      (by simp [OutFrame.cls])
    rw [he]
    have hp : (s.push (.halt n.group n.content.kind n.content.cause n.content.tag)).mid :=
      h.congr { free := hk.free.ge, readies := hk.readies, flight := by simpa using h.flight }
    exact hp.of_notices (changeNotice _ _) (h.notices.change (fun _ => rfl) fun _ _ hx => hx)

end Sys2Proof.Machine
end

section
/-! SUPPORT. The retirement of the head, and what stops it or gives it up, keep the invariant (R17 to R23, R41, R72 to R74,
R101). -/

-- One proof after another: elaborated side by side they need more threads than the check allows.
set_option deprecated.oldSectionVars true

namespace Sys2Proof.Machine

/-! ## Retirement -/

/-- The Move Controller, the mark list and the group table after a retirement (R17 to R20, R53). -/
theorem State.retire_fields {s : State} {m : Move} {rest : List Move} (hq : s.mc.queue = m :: rest) (o : RetireOutcome)
    (c : Option Cause) :
    (s.retire o c).mc.state = stateAfter (causesAfter s.mc.causes c) s.mc.holdPending rest ∧
    (s.retire o c).mc.causes = causesAfter s.mc.causes c ∧ (s.retire o c).mc.kept = [] ∧
    (s.retire o c).gate.marks = keepNamed rest s.gate.marks ∧ (s.retire o c).roll.groups = s.roll.groups := by
  unfold State.retire
  simp [hq]

theorem State.retire_not_busy {s : State} {m : Move} {rest : List Move} (hq : s.mc.queue = m :: rest) (o : RetireOutcome)
    (c : Option Cause) : (s.retire o c).mc.state.busy = false := by
  rw [(State.retire_fields hq o c).1]
  exact busy_stateAfter _ _ _

/-- The cause of a retirement holds the node (R20). -/
theorem State.retire_held (s : State) {m : Move} {rest : List Move} (hq : s.mc.queue = m :: rest) (o : RetireOutcome)
    (c : Cause) : (s.retire o (some c)).mc.state = .held := by
  rw [(State.retire_fields hq o _).1]
  exact if_neg fun h => withCause_ne_zero _ _ h.1

theorem State.ne_unconfigured_of_queue {s : State} (h : s.causesOk) (hq : s.mc.queue ≠ []) : s.mc.state ≠ .unconfigured := by
  intro hs
  have h1 := h.1
  rw [hs] at h1
  exact hq h1.1

/-- The entries behind the head have not started. -/
theorem State.rest_subset_unstarted {s : State} {m : Move} {rest : List Move} (hq : s.mc.queue = m :: rest) :
    rest ⊆ s.unstarted := by
  unfold State.unstarted
  rw [hq]
  split
  · exact List.Subset.refl _
  · exact List.subset_cons_self _ _

theorem State.queueOk_tail {s t : State} (h : s.queueOk) (ht : t.mc.queue = s.mc.queue.tail) : t.queueOk := by
  obtain ⟨hl, hd, hm⟩ := h
  have hsub : t.mc.queue.Sublist s.mc.queue := ht ▸ List.tail_sublist _
  exact ⟨hsub.length_le.trans hl, hd.sublist (hsub.map _), fun m hmem => hm m (hsub.subset hmem)⟩

theorem State.membersOk_tail {s t : State} (h : s.membersOk) (ht : t.mc.queue = s.mc.queue.tail)
    (hstore : t.store = s.store) (hroll : t.roll.groups = s.roll.groups) (hself : t.link.addr = s.link.addr) :
    t.membersOk := by
  obtain ⟨hg, he, hq⟩ := h
  have hs : t.self = s.self := by simp [State.self, hself]
  refine ⟨by rwa [hstore, hs], by rwa [hroll, hs], fun m hm => ?_⟩
  rw [hroll]
  exact hq m (List.mem_of_mem_tail (ht ▸ hm))

/-- The state that a retirement or a RESUME gives is in step with the causes and the queue (R20, R22, R105). -/
theorem State.causesOk_of_stateAfter {t : State} (hs : t.mc.state = stateAfter t.mc.causes t.mc.holdPending t.mc.queue)
    (hp : t.mc.holdPending = true → t.mc.causes ≠ 0) (hk : t.mc.kept = []) : t.causesOk := by
  refine ⟨?_, hp, fun h => absurd hk h, by simp [hk]⟩
  rw [hs]
  by_cases h0 : t.mc.causes = 0 ∧ t.mc.holdPending = false
  · rw [stateAfter.eq_def, if_pos h0]
    cases hq : t.mc.queue with
    | nil => exact ⟨rfl, h0.1⟩
    | cons m rest => exact ⟨by simp, h0.1⟩
  · rw [stateAfter.eq_def, if_neg h0]
    cases hb : t.mc.holdPending with
    | true => exact hp hb
    | false => exact fun hz => h0 ⟨hz, hb⟩

/-- Every retirement leaves a node not busy with a head, its causes in step with its state (R20, R22). -/
theorem State.retire_causesOk {s : State} {m : Move} {rest : List Move} (h : s.causesOk) (hq : s.mc.queue = m :: rest)
    (o : RetireOutcome) (c : Option Cause) : (s.retire o c).causesOk := by
  obtain ⟨hst, hc, hk, -, -⟩ := State.retire_fields hq o c
  refine State.causesOk_of_stateAfter ?_ (fun hp => ?_) hk
  · simp [hst, hc, hq]
  · rw [hc]
    exact causesAfter_ne_zero (h.2.1 (by simpa using hp)) c

theorem State.retire_base {s : State} {m : Move} {rest : List Move} (h : s.base) (hq : s.mc.queue = m :: rest)
    (o : RetireOutcome) (c : Option Cause) : (s.retire o c).base := by
  obtain ⟨hst, hc, hk, hm, hr⟩ := State.retire_fields hq o c
  have hqt : (s.retire o c).mc.queue = rest := by rw [State.retire_queue, hq, List.tail_cons]
  have hb := State.retire_not_busy hq o c
  refine State.base_of_not_busy hb (State.queueOk_tail h.queue (by simp)) ?_ (by simpa using h.notices)
    (State.retire_causesOk h.causes hq o c) ?_ (State.membersOk_tail h.members (by simp) (by simp) hr (by simp)) ?_
  · rw [hqt, hm]
    exact h.marks.keepNamed (State.rest_subset_unstarted hq)
  · have hu := State.ne_unconfigured_of_queue h.causes (by simp [hq])
    simp only [State.retire_frame]
    exact iff_of_true (h.committed.mpr hu) (hst ▸ stateAfter_ne_unconfigured _ _ _)
  · rw [(s.retire_keepsReadies o c).flight]
    exact h.flight

/-- A retirement with the lead at rest and no READY left keeps the invariant. -/
theorem State.retire_mid {s : State} {m : Move} {rest : List Move} (h : s.base) (hq : s.mc.queue = m :: rest)
    (hl : s.lead.stopped) (hr : s.fq.readies = []) (o : RetireOutcome) (c : Option Cause) : (s.retire o c).mid :=
  State.mid_of_not_busy (State.retire_base h hq o c) (State.retire_not_busy hq o c) (by simpa using hl)
    ((s.retire_keepsReadies o c).readies.trans hr)

/-- The record waits only while the node is not busy with a head (R11, R18). -/
theorem State.base.not_busy_of_record {s : State} (h : s.base) (hr : s.mc.record ≠ none) : s.mc.state.busy = false := by
  by_contra hb
  exact hr (h.room (NodeState.busy_iff.mp (by simpa using hb))).2.1

theorem State.mid.lead_stopped {s : State} (h : s.mid) (hb : s.mc.state.busy = false) : s.lead.stopped :=
  s.lead_stopped h.lead (NodeState.not_moving_of_not_busy hb)

theorem State.mid.no_readies {s : State} (h : s.mid) (hb : s.mc.state.busy = false) : s.fq.readies = [] :=
  h.readies.1 (NodeState.ne_announcing_of_not_busy hb)

/-- A retirement of a head that the node is not busy with, if there is one (R19, R57). -/
theorem State.retire_mid_of_not_busy {s : State} (h : s.mid) (hb : s.mc.state.busy = false) (o : RetireOutcome)
    (c : Option Cause) : (s.retire o c).mid := by
  cases hq : s.mc.queue with
  | nil =>
    have he : s.retire o c = s := by simp [State.retire, hq]
    rwa [he]
  | cons m rest => exact State.retire_mid h.tobase hq (h.lead_stopped hb) (h.no_readies hb) o c

theorem State.replyFreed_mid {s : State} (h : s.mid) : s.replyFreed.mid := by
  unfold State.replyFreed
  split
  · exact h
  · rename_i w hw
    split
    · have hb := h.not_busy_of_record (by simp [hw])
      have hk := s.fq.keepsReadies_push (.report w.origin w.record) rfl
      have h' : ((s.push (.report w.origin w.record)).updMc fun m => { m with record := none }).mid :=
        State.mid_of_not_busy
          (State.base_of_not_busy hb h.queue
            (State.unstarted_of_not_moving (NodeState.not_moving_of_not_busy hb) ▸ h.marks) h.notices h.causes h.committed
            h.members (hk.flight ▸ h.flight))
          hb (h.lead_stopped hb) (hk.readies.trans (h.no_readies hb))
      dsimp only
      split
      · exact State.retire_mid_of_not_busy h' hb _ _
      · exact h'
    · exact h

/-! ## Stopping -/

theorem State.stopLead_stopped (s : State) : s.stopLead.lead.stopped := ⟨rfl, rfl⟩

theorem State.stopLead_base {s : State} (h : s.base) : s.stopLead.base := h.congr { flight := h.flight }

theorem State.haltMove_mid {s : State} {m : Move} {rest : List Move} (h : s.base) (hq : s.mc.queue = m :: rest)
    (hr : s.fq.readies = []) (c : Cause) : (s.haltMove c).mid := by
  unfold State.haltMove State.head
  rw [hq]
  dsimp only [List.head?_cons]
  split <;> exact State.retire_mid (State.stopLead_base h) hq s.stopLead_stopped hr _ _

/-- A move in hand has not reached the end of its lead, so a halt of it holds the node (R20, R74). -/
theorem State.haltMove_held {s : State} {m : Move} {rest : List Move} (hq : s.mc.queue = m :: rest) (hp : s.lead.p ≠ m.lead)
    (c : Cause) : (s.haltMove c).mc.state = .held := by
  simp only [State.haltMove, State.head, hq, List.head?_cons, if_neg hp]
  exact s.stopLead.retire_held hq _ _

/-- What the invariant says of a move in hand (R10, R65). -/
theorem State.mid.in_hand {s : State} (h : s.mid) (hm : s.mc.state.moving = true) :
    ∃ m rest ks, s.mc.queue = m :: rest ∧ leadFits (s.profileOf m) m s.lead ∧
      s.gate.held = some { tag := m.tag, unreached := ks } := h.lead.2.2.2 hm

theorem State.mid.no_readies_of_moving {s : State} (h : s.mid) (hm : s.mc.state.moving = true) : s.fq.readies = [] :=
  h.readies.1 (NodeState.ne_announcing_of_moving hm)

/-- What the invariant asks of a node with a move in hand. -/
theorem State.mid_of_moving {t : State} (hm : t.mc.state.moving = true) (queue : t.queueOk)
    (marks : marksFit t.mc.queue.tail t.gate.marks) (notices : noticesFit t.mc.notices)
    (causes : t.mc.holdPending = true → t.mc.causes ≠ 0) (kept : t.mc.kept = [])
    (room : 0 < t.fq.free ∧ t.mc.record = none ∧ t.gate.timer = none) (committed : t.store.committed = true)
    (members : t.membersOk) (flight : t.fq.inFlight.length ≤ 1) (lead : t.leadOk) (readies : t.fq.readies = []) : t.mid where
  queue := queue
  marks := by simpa [State.unstarted, hm] using marks
  notices := notices
  causes := by
    obtain ⟨m, rest, ks, hq, -⟩ := lead.2.2.2 hm
    refine ⟨?_, causes, fun h => absurd kept h, by simp [kept]⟩
    cases hs : t.mc.state <;> simp_all [NodeState.moving]
  room _ := room
  grouped h := by simp [NodeState.not_moving_of_announced h] at hm
  due _ := NodeState.ne_announcing_of_moving hm
  committed := by
    refine iff_of_true committed fun h => ?_
    rw [h] at hm
    cases hm
  members := members
  flight := flight
  lead := lead
  readies := ⟨fun _ => readies, fun h => absurd h (NodeState.ne_announcing_of_moving hm)⟩

theorem State.base.committed_of_queue {s : State} (h : s.base) (hq : s.mc.queue ≠ []) : s.store.committed = true :=
  h.committed.mpr (State.ne_unconfigured_of_queue h.causes hq)

theorem State.marksFit_tail (s : State) (h : s.base) (hm : s.mc.state.moving = true) :
    marksFit s.mc.queue.tail s.gate.marks := by
  simpa [State.unstarted, hm] using h.marks

/-- The lead begins or goes on with its halt descent (R72). -/
theorem State.descent_mid {s : State} (h : s.mid) (hm : s.mc.state.moving = true) (c : Cause) :
    ((s.updLead fun l => { l with phase := .descent }).updMc
      fun m => { m with state := .stopping, descentCause := some c }).mid := by
  obtain ⟨m, rest, ks, hq, hf, hh⟩ := h.in_hand hm
  have hna := NodeState.ne_announcing_of_moving hm
  exact State.mid_of_moving rfl h.queue (s.marksFit_tail h.tobase hm) h.notices h.causes.2.1
    (s.kept_of_not_announcing h.causes hna) (h.room (.inr hm))
    (h.tobase.committed_of_queue (by simp [hq])) h.members h.flight
    ⟨⟨nofun, nofun⟩, ⟨fun _ => rfl, fun _ => rfl⟩, nofun, fun _ => ⟨m, rest, ks, hq, hf, hh⟩⟩ (h.no_readies_of_moving hm)

theorem State.haltDescent_mid {s : State} (h : s.mid) (hm : s.mc.state.moving = true) (c : Cause) :
    (s.haltDescent c).mid := by
  obtain ⟨m, rest, ks, hq, -⟩ := h.in_hand hm
  unfold State.haltDescent
  split
  · exact State.haltMove_mid h.tobase hq (h.no_readies_of_moving hm) c
  · exact State.descent_mid h hm c

theorem State.haltDescent_state {s : State} (h : s.mid) (hm : s.mc.state.moving = true) (c : Cause) :
    (s.haltDescent c).mc.state = .held ∨ (s.haltDescent c).mc.state.moving = true := by
  obtain ⟨m, rest, ks, hq, hf, -⟩ := h.in_hand hm
  unfold State.haltDescent
  split
  · exact .inl (State.haltMove_held hq hf.1.ne c)
  · exact .inr rfl

theorem State.stopMove_mid {s : State} (h : s.mid) (hm : s.mc.state.moving = true) {c : Cause} (d : Bool)
    (hc : causeInNotice c = true) : (s.stopMove c d).mid := by
  obtain ⟨m, rest, ks, hq, -⟩ := h.in_hand hm
  unfold State.stopMove
  split
  · exact State.notify_mid (State.haltMove_mid h.tobase hq (h.no_readies_of_moving hm) c) _ _ _ hc
  · exact h

theorem State.stopMove_held {s : State} (h : s.mid) (hm : s.mc.state.moving = true) (c : Cause) (d : Bool) :
    (s.stopMove c d).mc.state = .held := by
  obtain ⟨m, rest, ks, hq, hf, -⟩ := h.in_hand hm
  simpa [State.stopMove, State.head, hq] using State.haltMove_held hq hf.1.ne c

theorem State.rampMove_mid {s : State} (h : s.mid) (hm : s.mc.state.moving = true) {c : Cause}
    (hc : causeInNotice c = true) : (s.rampMove c).mid := by
  unfold State.rampMove
  split
  · exact State.notify_mid (State.haltDescent_mid (State.addCause_mid h (.inr hm) c) (by simpa using hm) c) _ _ _ hc
  · exact h

theorem State.rampMove_state {s : State} (h : s.mid) (hm : s.mc.state.moving = true) (c : Cause) :
    (s.rampMove c).mc.state = .held ∨ (s.rampMove c).mc.state.moving = true := by
  unfold State.rampMove
  split
  · simpa using State.haltDescent_state (State.addCause_mid h (.inr hm) c) (by simpa using hm) c
  · exact .inr hm

/-! ## Giving up an announced head -/

theorem State.removeReady_base {s : State} (h : s.base) : s.removeReady.base :=
  h.congr { free := s.fq.free_removeQueued_le _, flight := by simpa [State.removeReady] using h.flight }

/-- An announced head is at the front of the queue (R10). -/
theorem State.base.announced_head {s : State} (h : s.base) (ha : s.mc.state.announced = true) :
    ∃ m rest, s.mc.queue = m :: rest := by
  obtain ⟨m, hm, -⟩ := h.grouped ha
  obtain ⟨rest, hq⟩ := List.head?_eq_some_iff.mp hm
  exact ⟨m, rest, hq⟩

theorem State.giveUp_base {s : State} (h : s.base) (ha : s.mc.state.announced = true) (o : RetireOutcome) (c : Cause) :
    (s.giveUp o c []).base := by
  obtain ⟨m, rest, hq⟩ := h.announced_head ha
  exact State.retire_base (State.removeReady_base h) hq o (some c)

theorem State.giveUp_held {s : State} (h : s.base) (ha : s.mc.state.announced = true) (o : RetireOutcome) (c : Cause)
    (l : List Cause) : (s.giveUp o c l).mc.state = .held := by
  obtain ⟨m, rest, hq⟩ := h.announced_head ha
  simpa [State.giveUp] using s.removeReady.retire_held hq o c

/-- An announced head whose READY is not in transmission is given up (R41, R91). -/
theorem State.giveUp_mid {s : State} (h : s.base) (hl : s.leadOk) (ha : s.mc.state.announced = true) (hc : s.fq.calm)
    (o : RetireOutcome) (c : Cause) (l : List Cause) : (s.giveUp o c l).mid := by
  obtain ⟨m, rest, hq⟩ := h.announced_head ha
  have hm := State.retire_mid (State.removeReady_base h) hq (s.lead_stopped hl (NodeState.not_moving_of_announced ha))
    (s.fq.readies_removeReady hc) o (some c)
  exact State.addCauses_mid hm (.inl (s.removeReady.retire_held hq o c)) l

/-- The READYs of a node that is not ANNOUNCING are none, so none is in transmission. -/
theorem State.mid.calm_of_not_announcing {s : State} (h : s.mid) (hs : s.mc.state ≠ .announcing) : s.fq.calm :=
  FrameQueue.calm_of_readies (h.readies.1 hs)

/-- No READY is in transmission where the one entry in transmission is none (R42, R137). -/
theorem FrameQueue.calm_of_readySending {q : FrameQueue} (hf : q.inFlight.length ≤ 1) (h : q.readySending = false) :
    q.calm := by
  unfold FrameQueue.calm
  rw [FrameQueue.readySending, FrameQueue.sending_eq_head?] at h
  rcases Nat.le_one_iff_eq_zero_or_eq_one.mp hf with h0 | h1
  · simp [List.length_eq_zero_iff.mp h0]
  · obtain ⟨x, hx⟩ := List.length_eq_one_iff.mp h1
    rw [hx] at h ⊢
    simpa using h

/-- The causes that fail an announced head, or are kept for it (R41, R42). -/
def failureCauses : List Cause := [.rollTimeout, .driveAlarm, .stopInput, .limitActive, .peerLost]

theorem State.failAnnounced_mid {s : State} (h : s.mid) (ha : s.mc.state.announced = true) {c : Cause}
    (hc : c ∈ failureCauses) : (s.failAnnounced c).mid := by
  unfold State.failAnnounced
  split
  · rename_i hs
    refine ⟨⟨h.queue, h.marks, h.notices, ⟨h.causes.1, h.causes.2.1, fun _ => hs.1, fun k hk => ?_⟩, h.room, h.grouped, h.due,
      h.committed, h.members, h.flight⟩, h.lead, h.readies⟩
    rcases List.mem_append.mp hk with hk | hk
    · exact h.causes.2.2.2 k hk
    · exact List.mem_singleton.mp hk ▸ hc
  · rename_i hs
    refine State.giveUp_mid h.tobase h.lead ha ?_ _ _ _
    by_cases han : s.mc.state = .announcing
    · exact FrameQueue.calm_of_readySending h.flight (by simpa [han] using hs)
    · exact h.calm_of_not_announcing han

/-! ## The LINK cause -/

theorem State.linkCause_mid {s : State} (h : s.base) (hl : s.leadOk) (hr : s.mc.state ≠ .announcing → s.fq.readies = [])
    (hc : s.fq.calm) : s.linkCause.mid := by
  have hmid (hs : s.mc.state ≠ .announcing) : s.mid := ⟨h, hl, hr, fun hh => absurd hh hs⟩
  unfold State.linkCause
  split
  case h_1 hs => exact hmid (by simp [hs])
  case h_2 hs => exact State.hold_mid (hmid (by simp [hs])) (by simp [hs]) (by rw [hs]; rfl) _
  case h_3 hs => exact State.hold_mid (hmid (by simp [hs])) (by simp [hs]) (by rw [hs]; rfl) _
  case h_4 hs => split <;> exact State.giveUp_mid h hl (by rw [hs]; rfl) hc _ _ _
  case h_5 hs => exact State.giveUp_mid h hl (by rw [hs]; rfl) hc _ _ _
  case h_6 hs => exact State.stopMove_mid (hmid (by simp [hs])) (by rw [hs]; rfl) _ rfl
  case h_7 hs => exact State.stopMove_mid (hmid (by simp [hs])) (by rw [hs]; rfl) _ rfl
  case h_8 hs => exact State.addCause_mid (hmid (by simp [hs])) (.inl hs) _

theorem State.linkDone_mid {s : State} (h : s.mid) : (s.updMc fun m => { m with linkDue := false }).mid :=
  ⟨⟨h.queue, h.marks, h.notices, h.causes, h.room, h.grouped, nofun, h.committed, h.members, h.flight⟩, h.lead,
    h.readies⟩

theorem State.takeLink_mid {s : State} (h : s.mid) (hc : s.fq.calm) : s.takeLink.mid :=
  State.linkDone_mid (State.linkCause_mid h.tobase h.lead h.readies.1 hc)

/-- The LINK cause is due only while no READY stands in the queue (R155). -/
theorem State.giveLink_mid {s : State} (h : s.mid) : s.giveLink.mid := by
  unfold State.giveLink
  split
  · exact State.takeLink_mid h (h.calm_of_not_announcing (h.due ‹_›))
  · exact h

end Sys2Proof.Machine
end

section
/-! SUPPORT. The start of a move, the arming checks and the end of an event keep the invariant (R12 to R16, R32, R46 to R48,
R66 to R69, R94, R152, R155). -/

-- One proof after another: elaborated side by side they need more threads than the check allows.
set_option deprecated.oldSectionVars true

namespace Sys2Proof.Machine

/-! ## The lead steps -/

/-- A step decided in phase RUN can be made (R68). -/
theorem runStep_fits (x : Slot) (L p c cap : Nat) : stepFits x.rampLength (L - p) c (runStep x L p c cap) := by
  unfold runStep
  split
  · rename_i h
    exact ⟨h.2.1, h.1⟩
  · split
    · rename_i h
      exact h.1
    · trivial

theorem decideStep_fits (x : Slot) (ph : Phase) (L p c cap : Nat) :
    stepFits x.rampLength (L - p) c (decideStep x ph L p c cap).kind := by
  cases ph with
  | descent => trivial
  | stopped => exact runStep_fits x L p c cap
  | run => exact runStep_fits x L p c cap

/-- The lead at the start of a move fits it (R66). -/
theorem leadFits_start (l : Lead) (x : Slot) {m : Move} (scale : Nat) (hL : 1 ≤ m.lead) :
    leadFits x m (l.start x m.lead scale) :=
  ⟨hL, Nat.zero_le _, Nat.zero_le _, ⟨_, rfl, decideStep_fits ..⟩, hL, by simp [Lead.start]⟩

/-! ## The start of a move -/

/-- A head starts that has room for its REPORT and whose READY is gone (R15, R34, R66). -/
theorem State.startMove_mid {s : State} {m : Move} {rest : List Move} (h : s.base) (hq : s.mc.queue = m :: rest)
    (hf : 0 < s.fq.free) (hrec : s.mc.record = none) (hr : s.fq.readies = []) : (s.startMove m).mid := by
  have hL : 1 ≤ m.lead := (h.queue.2.2 m (by simp [hq])).1
  refine State.mid_of_moving rfl h.queue ?_ h.notices h.causes.2.1 rfl ⟨hf, hrec, rfl⟩
    (h.committed_of_queue (by simp [hq])) h.members h.flight ?_ hr
  · exact h.marks.keepNamed (hq ▸ State.rest_subset_unstarted hq)
  · exact ⟨⟨fun _ => rfl, fun _ => rfl⟩, ⟨nofun, nofun⟩, nofun,
      fun _ => ⟨m, rest, m.markers, hq, leadFits_start s.lead _ _ hL, rfl⟩⟩

theorem State.queueSync_base {s : State} (h : s.base) (hs : s.mc.state ≠ .announcing) (f : OutFrame)
    (hr : f.isReady = false) (hc : f.cls ≠ .reply) : (s.queueSync f).base := by
  unfold State.queueSync
  split
  · have hk := s.fq.keepsRoom_push f hr hc
    exact h.congr { free := hk.free.ge, flight := by simpa using h.flight }
  · exact ⟨h.queue, h.marks, h.notices, h.causes, h.room, h.grouped, fun _ => hs, h.committed, h.members, h.flight⟩

theorem State.reachAll_base {s : State} (h : s.base) (hs : s.mc.state ≠ .announcing) (t : Tag) (ks : List Marker) :
    (s.reachAll t ks).base := by
  induction ks generalizing s with
  | nil => exact h
  | cons k ks ih =>
    have hk := State.queueSync_base h hs (.mark t k.number .reached) rfl (by simp [OutFrame.cls])
    exact ih (hk.congr { flight := hk.flight }) (by simpa using hs)

/-- Markers are reached only by a move in hand, which holds no READY (R46). -/
theorem State.reach_base {s : State} (h : s.base) (hs : s.mc.state ≠ .announcing) (p : Marker → Bool) : (s.reach p).base := by
  unfold State.reach
  split
  · exact h
  · have hr := State.reachAll_base h hs ‹HeldMarkers›.tag (ascending (‹HeldMarkers›.unreached.filter p))
    exact ⟨hr.queue, hr.marks, hr.notices, hr.causes, hr.room, hr.grouped, hr.due, hr.committed, hr.members, hr.flight⟩

/-- The Gate Unit goes on holding the markers of the same move (R46). -/
theorem State.reach_held {s : State} {t : Tag} {ks : List Marker} (h : s.gate.held = some { tag := t, unreached := ks })
    (p : Marker → Bool) : ∃ ks', (s.reach p).gate.held = some { tag := t, unreached := ks' } := by
  unfold State.reach
  rw [h]
  exact ⟨_, rfl⟩

theorem State.reach_readies {s : State} (p : Marker → Bool) (h : s.fq.readies = []) : (s.reach p).fq.readies = [] :=
  (s.reach_keepsRoom p).readies.trans h

/-- A SEEK in hand completes on HOME (R47, R79). -/
theorem State.completeSeek_mid {s : State} (h : s.mid) (hm : s.mc.state.moving = true) : s.completeSeek.mid := by
  obtain ⟨m, rest, ks, hq, -⟩ := h.in_hand hm
  have hs := NodeState.ne_announcing_of_moving hm
  have hb : (s.stopLead.updLead fun l => { l with position := s.homeValue }).base := h.tobase.congr { flight := h.flight }
  exact State.retire_mid (State.reach_base hb hs _) (by simpa using hq)
    (by simp only [State.reach_frame]; exact s.stopLead_stopped) (State.reach_readies _ (h.no_readies_of_moving hm)) _ _

/-! ## Arming -/

theorem State.readyFor_iff (s : State) (m : Move) :
    s.readyFor m = true ↔ m.decided s.gate.marks = true ∧ 0 < s.fq.free ∧ s.mc.record = none := by
  simp [State.readyFor, and_assoc]

theorem State.mid.pending_causes {s : State} (h : s.mid) (hp : s.mc.state = .pending) : s.mc.causes = 0 := by
  have h1 := h.causes.1
  rw [hp] at h1
  exact h1.2

/-- The READY of a PENDING head is queued, or the LINK cause is due (R15, R32, R155). -/
theorem State.announce_mid {s : State} {m : Move} {rest : List Move} {g : GroupNo} (h : s.mid) (hp : s.mc.state = .pending)
    (hq : s.mc.queue = m :: rest) (hg : m.group = some g) (hd : s.mc.linkDue = false) (hf : 0 < s.fq.free)
    (hrec : s.mc.record = none) : (s.announce g m).mid := by
  have hb : s.mc.state.busy = false := by rw [hp]; rfl
  have hc := h.pending_causes hp
  have hk : s.mc.kept = [] := s.kept_of_not_announcing h.causes (by simp [hp])
  have hm := NodeState.not_moving_of_not_busy hb
  have hun : s.mc.queue = s.unstarted := (State.unstarted_of_not_moving hm).symm
  unfold State.announce
  split
  · have hfree : (s.fq.push (.ready g m.tag)).free = s.fq.free := s.fq.free_push_of_ne (by simp [OutFrame.cls])
    have hready : (s.fq.push (.ready g m.tag)).readies = [.ready g m.tag] := by
      simp [h.no_readies hb, OutFrame.isReady]
    have hhead : m ∈ s.mc.queue.head? := by simp [hq]
    refine ⟨⟨h.queue, ?_, h.notices, ⟨⟨by simp [hq], hc⟩, h.causes.2.1, fun _ => rfl, h.causes.2.2.2⟩,
      fun _ => ⟨hfree ▸ hf, hrec, rfl⟩, fun _ => ⟨m, hhead, by simp [hg]⟩, fun hd' => ?_, ?_, h.members, ?_⟩,
      State.leadOk_of_stopped (h.lead_stopped hb) rfl, fun hh => absurd rfl hh, fun _ => ⟨m, hhead, g, hg, hready⟩⟩
    · show marksFit s.mc.queue s.gate.marks
      exact hun ▸ h.marks
    · simp [hd] at hd'
    · exact iff_of_true (h.tobase.committed_of_queue (by simp [hq])) nofun
    · simpa using h.flight
  · exact ⟨⟨h.queue, h.marks, h.notices, h.causes, h.room, h.grouped, fun _ => by simp [hp], h.committed, h.members, h.flight⟩,
      h.lead, h.readies⟩

/-- The arming checks of a ready PENDING head (R13, R15, R16). -/
theorem State.armHead_mid {s : State} {m : Move} {rest : List Move} (h : s.mid) (hp : s.mc.state = .pending)
    (hq : s.mc.queue = m :: rest) (hr : s.readyFor m = true) (hd : s.mc.linkDue = false) : (s.armHead m).mid := by
  obtain ⟨-, hf, hrec⟩ := (s.readyFor_iff m).mp hr
  have hb : s.mc.state.busy = false := by rw [hp]; rfl
  unfold State.armHead
  split
  · exact State.retire_mid_of_not_busy h hb _ _
  · split
    · exact State.announce_mid h hp hq ‹_› hd hf hrec
    · have hs := State.startMove_mid h.tobase hq hf hrec (h.no_readies hb)
      unfold State.startSolo
      split
      · exact State.completeSeek_mid hs rfl
      · exact hs

theorem State.settle_mid {s : State} (h : s.mid) (n : Nat) : (s.settle n).mid := by
  induction n generalizing s with
  | zero => exact State.giveLink_mid h
  | succ n ih =>
    have hg := State.giveLink_mid h
    simp only [State.settle]
    split
    · split
      · exact ih (State.armHead_mid hg ‹_› ‹_› ‹_› s.giveLink_linkDue)
      · exact hg
    · exact hg

/-! ## The offer and the end of an event -/

@[simp] theorem State.offer_addr (s : State) : s.offer.link.addr = s.link.addr := by
  rcases s.offer_cases with ⟨h, -⟩ | ⟨k, -, -, -, -, h⟩
  · rw [h]
  · rw [h]

theorem State.offer_flight {s : State} (h : s.fq.inFlight.length ≤ 1) : s.offer.fq.inFlight.length ≤ 1 := by
  rcases s.offer_inFlight with he | ⟨-, hl⟩
  · rwa [he]
  · exact hl

theorem State.offer_mid {s : State} (h : s.mid) : s.offer.mid := h.congr { flight := State.offer_flight h.flight }

theorem State.finish_mid {s : State} (h : s.mid) : s.finish.mid :=
  State.offer_mid (State.fillUrgent_mid (State.settle_mid h _))

@[simp] theorem State.finish_addr (s : State) : s.finish.link.addr = s.link.addr := by simp [State.finish]

end Sys2Proof.Machine
end

section
/-! SUPPORT. The frames of coordination that are taken, and a change of presence, keep the invariant (R28 to R40, R52, R87 to
R92, R109 to R116). -/

-- One proof after another: elaborated side by side they need more threads than the check allows.
set_option deprecated.oldSectionVars true

namespace Sys2Proof.Machine

/-! ## The group table -/

@[simp] theorem GroupEntry.write_members (a : Addr) (t : Option Tag) (e : GroupEntry) : (e.write a t).members = e.members := by
  simp only [GroupEntry.members, GroupEntry.write, List.map_map]
  exact List.map_congr_left fun r _ => by simp only [Function.comp]; split <;> rfl

@[simp] theorem GroupEntry.emptyTag_members (t : Tag) (e : GroupEntry) : (e.emptyTag t).members = e.members := by
  simp only [GroupEntry.members, GroupEntry.emptyTag, List.map_map]
  exact List.map_congr_left fun r _ => by simp only [Function.comp]; split <;> rfl

@[simp] theorem GroupEntry.emptyAll_members (e : GroupEntry) : e.emptyAll.members = e.members := by
  simp [GroupEntry.members, GroupEntry.emptyAll, Function.comp_def]

/-- A change of group table entries that keeps numbers and members keeps the invariant. -/
theorem State.updGroup_membersOk {s : State} (h : s.membersOk) (g : GroupNo) (f : GroupEntry → GroupEntry)
    (hn : ∀ e, (f e).number = e.number) (hm : ∀ e, (f e).members = e.members) : (s.updGroup g f).membersOk := by
  obtain ⟨hr, he, hq⟩ := h
  refine ⟨hr, fun e hmem => ?_, fun m hmem k hk => ?_⟩
  · obtain ⟨x, hx, rfl⟩ := List.mem_map.mp hmem
    split
    · exact hm x ▸ he x hx
    · exact he x hx
  · obtain ⟨x, hx, hxk⟩ := hq m hmem k hk
    refine ⟨_, List.mem_map_of_mem hx, ?_⟩
    split
    · exact (hn x).trans hxk
    · exact hxk

theorem State.updGroup_mid {s : State} (h : s.mid) (g : GroupNo) (f : GroupEntry → GroupEntry)
    (hn : ∀ e, (f e).number = e.number) (hm : ∀ e, (f e).members = e.members) : (s.updGroup g f).mid :=
  ⟨⟨h.queue, h.marks, h.notices, h.causes, h.room, h.grouped, h.due, h.committed,
    State.updGroup_membersOk h.members g f hn hm, h.flight⟩, h.lead, h.readies⟩

/-! ## Presence -/

theorem State.groupBroken_mid {s : State} (h : s.mid) (g : GroupNo) : (s.groupBroken g).mid := by
  unfold State.groupBroken
  split
  · split
    case h_1 hs => exact State.rampMove_mid h (by rw [hs]; rfl) rfl
    case h_2 hs => exact State.failAnnounced_mid h (by rw [hs]; rfl) (by simp [failureCauses])
    case h_3 hs => exact State.failAnnounced_mid h (by rw [hs]; rfl) (by simp [failureCauses])
    case h_4 => exact h
  · exact h

theorem State.presenceInGroup_mid {s : State} (h : s.mid) (a : Addr) (lost : Bool) (g : GroupNo) :
    (s.presenceInGroup a lost g).mid := by
  unfold State.presenceInGroup
  split
  · exact h
  · rename_i e _
    have hg := State.updGroup_mid h g
      (fun x => { (if lost then x.write a none else x) with state := s.judgedState e lost })
      (fun e => by cases lost <;> rfl) fun e => by
        cases lost
        · rfl
        · exact e.write_members a none
    dsimp only
    split
    · exact State.groupBroken_mid hg g
    · exact hg

theorem State.presenceInGroups_mid {s : State} (h : s.mid) (a : Addr) (lost : Bool) (gs : List GroupNo) :
    (gs.foldl (State.presenceInGroup a lost) s).mid := by
  induction gs generalizing s with
  | nil => exact h
  | cons g gs ih => exact ih (State.presenceInGroup_mid h a lost g)

theorem State.updPeerEntry_mid {s : State} (h : s.mid) (a : Addr) (f : PeerEntry → PeerEntry) : (s.updPeerEntry a f).mid :=
  h.congr { flight := by simpa using h.flight }

theorem State.setPresence_mid {s : State} (h : s.mid) (a : Addr) (p : Presence) : (s.setPresence a p).mid := by
  unfold State.setPresence
  split
  · exact h
  · split
    · exact h
    · exact State.presenceInGroups_mid (State.updPeerEntry_mid h _ _) _ _ _

theorem State.hear_mid {s : State} (h : s.mid) (src : Addr) (k : Heard) : (s.hear src k).mid := by
  unfold State.hear
  dsimp only
  split
  · exact State.setPresence_mid (State.updPeerEntry_mid h _ _) _ _
  · exact State.updPeerEntry_mid h _ _

/-! ## The roll -/

theorem State.staleStart_mid {s : State} (h : s.mid) (g : GroupNo) (t : Tag) : (s.staleStart g t).mid := by
  unfold State.staleStart
  split
  · rename_i c hc
    have hk := s.fq.keepsRoom_removeQueued (OutFrame.isToldByNotice g t) fun f hf =>
      ⟨OutFrame.isReady_of_isToldByNotice hf, by
        obtain ⟨c, rfl, -⟩ := OutFrame.isToldByNotice_iff.mp hf
        simp [OutFrame.cls]⟩
    have hq : (s.updFq fun q => q.removeQueued (OutFrame.isToldByNotice g t)).mid :=
      h.congr { free := hk.free.ge, readies := hk.readies, flight := by simpa using h.flight }
    exact State.raiseNotice_mid hq _ _ (FrameQueue.withdrawCause_some hc).1
  · exact State.raiseNotice_mid h _ _ rfl

/-- The start event of an announced head, whose READY is not in transmission, or of a roll without one (R34, R35). -/
theorem State.startEvent_mid {s : State} (h : s.mid) (hc : s.fq.calm) (g : GroupNo) (t : Tag) : (s.startEvent g t).mid := by
  have hg := State.updGroup_mid h g ((·.emptyTag t)) (fun _ => rfl) fun e => e.emptyTag_members t
  unfold State.startEvent
  dsimp only
  split
  · rename_i ha
    have ha := (Bool.and_eq_true_iff.mp ha).1
    split
    · rename_i m hm
      obtain ⟨rest, hq⟩ := List.head?_eq_some_iff.mp hm
      obtain ⟨hf, hrec, -⟩ := hg.room (.inl ha)
      exact State.startMove_mid (State.removeReady_base hg.tobase) hq
        (hf.trans_le (FrameQueue.free_removeQueued_le ..)) hrec (FrameQueue.readies_removeReady _ hc)
    · exact hg
  · exact State.staleStart_mid hg g t

theorem State.announced_of_mismatched {s : State} {g : GroupNo} (h : s.mismatched g = true) :
    s.mc.state.announced = true := by
  unfold State.mismatched at h
  split at h
  · simp only [Bool.and_eq_true] at h
    exact h.1.1
  · cases h

/-- Another member's READY is taken (R29). -/
theorem State.readyTake_mid {s : State} {src : Addr} (h : s.mid) (hc : s.fq.calm) (hsrc : src ≠ s.self) (g : GroupNo) (t : Tag) :
    (s.readyTake src g t).mid := by
  unfold State.readyTake
  split
  · exact h
  · split
    · have hg := State.updGroup_mid h g ((·.write src (some t))) (fun _ => rfl) fun e => e.write_members _ _
      dsimp only
      split
      · exact State.startEvent_mid hg hc g t
      · split
        · exact State.giveUp_mid hg.tobase hg.lead (State.announced_of_mismatched ‹_›) hc _ _ _
        · simpa [hsrc] using hg
    · exact h

/-! ## Withdrawal -/

theorem State.judgeGates_mid {s : State} (h : s.mid) : s.judgeGates.mid := by
  unfold State.judgeGates
  split
  · split
    · exact ⟨⟨h.queue, h.marks, h.notices, h.causes, fun hb => ⟨(h.room hb).1, (h.room hb).2.1, rfl⟩, h.grouped, h.due,
        h.committed, h.members, h.flight⟩, h.lead, h.readies⟩
    · exact h
  · exact h

/-- Flagging changes nothing of an entry but its flag (R40). -/
theorem flagWithdrawn_map {α : Type} (g : GroupNo) (t : Tag) (ms : List Move) (f : Move → α)
    (hf : ∀ m, f { m with withdrawnBy := true } = f m) : (flagWithdrawn g t ms).map f = ms.map f := by
  simp only [flagWithdrawn, List.map_map]
  exact List.map_congr_left fun m _ => by
    simp only [Function.comp]
    split
    · exact hf m
    · rfl

/-- An entry of a flagged queue is an entry of the queue but for its flag. -/
theorem mem_flagWithdrawn {g : GroupNo} {t : Tag} {ms : List Move} {m : Move} (h : m ∈ flagWithdrawn g t ms) :
    ∃ x ∈ ms, m = x ∨ m = { x with withdrawnBy := true } := by
  obtain ⟨x, hx, rfl⟩ := List.mem_map.mp h
  refine ⟨x, hx, ?_⟩
  split
  · exact .inr rfl
  · exact .inl rfl

theorem flagWithdrawn_tail (g : GroupNo) (t : Tag) (ms : List Move) :
    (flagWithdrawn g t ms).tail = flagWithdrawn g t ms.tail := by
  cases ms <;> rfl

/-- A READY of the head still names it after the flagging (R40). -/
theorem flagWithdrawn_head? {g : GroupNo} {t : Tag} {ms : List Move} {m : Move} (h : m ∈ ms.head?) :
    ∃ x ∈ (flagWithdrawn g t ms).head?, x.group = m.group ∧ x.tag = m.tag := by
  obtain ⟨rest, rfl⟩ := List.head?_eq_some_iff.mp h
  refine ⟨_, rfl, ?_⟩
  dsimp only
  split <;> exact ⟨rfl, rfl⟩

theorem flagWithdrawn_queueOk {s : State} (h : s.queueOk) (g : GroupNo) (t : Tag) :
    (s.updMc fun m => { m with queue := flagWithdrawn g t m.queue }).queueOk := by
  obtain ⟨hl, hd, hm⟩ := h
  refine ⟨(List.length_map _).trans_le hl, ?_, fun m hmem => ?_⟩
  · exact (flagWithdrawn_map g t s.mc.queue (·.tag) fun _ => rfl) ▸ hd
  · obtain ⟨x, hx, rfl | rfl⟩ := mem_flagWithdrawn hmem
    · exact hm _ hx
    · exact hm x hx

/-- The causes are in step with the queue as far as it is empty or not (R10, R22). -/
theorem State.causesOk_of_queue {s : State} (q : List Move) (h : s.causesOk) (hq : q = [] ↔ s.mc.queue = []) :
    (s.updMc fun m => { m with queue := q }).causesOk := by
  simpa only [State.causesOk, State.updMc_mc, ne_eq, hq] using h

/-- The flag of an entry changes nothing that the invariant reads (R40). -/
theorem State.flagWithdrawn_mid {s : State} (h : s.mid) (g : GroupNo) (t : Tag) :
    (s.updMc fun m => { m with queue := flagWithdrawn g t m.queue }).mid := by
  obtain ⟨hr, hd, hs, hm⟩ := h.lead
  refine ⟨⟨flagWithdrawn_queueOk h.queue g t, ?_, h.notices,
    State.causesOk_of_queue _ h.causes List.map_eq_nil_iff, h.room, fun ha => ?_, h.due, h.committed, ?_, h.flight⟩,
    ⟨hr, hd, hs, fun hmv => ?_⟩, h.readies.1, fun ha => ?_⟩
  · have hun : (s.updMc fun m => { m with queue := flagWithdrawn g t m.queue }).unstarted =
        flagWithdrawn g t s.unstarted := by
      unfold State.unstarted
      rw [apply_ite (flagWithdrawn g t), ← flagWithdrawn_tail]
      rfl
    rw [hun]
    exact h.marks.of_gates (by
      rw [List.flatMap_def, List.flatMap_def, flagWithdrawn_map g t s.unstarted (·.gates) fun _ => rfl])
  · obtain ⟨m, hm, hg⟩ := h.grouped ha
    obtain ⟨x, hx, hxg, -⟩ := flagWithdrawn_head? hm
    exact ⟨x, hx, hxg ▸ hg⟩
  · refine ⟨h.members.1, h.members.2.1, fun m hmem k hk => ?_⟩
    obtain ⟨x, hx, rfl | rfl⟩ := mem_flagWithdrawn hmem
    · exact h.members.2.2 _ hx k hk
    · exact h.members.2.2 x hx k hk
  · obtain ⟨m, rest, ks, hq, hf, hh⟩ := hm hmv
    refine ⟨_, flagWithdrawn g t rest, ks, congrArg (flagWithdrawn g t) hq, ?_⟩
    dsimp only
    split <;> exact ⟨hf, hh⟩
  · obtain ⟨m, hm, k, hk, hre⟩ := h.readies.2 ha
    obtain ⟨x, hx, hxg, hxt⟩ := flagWithdrawn_head? hm
    exact ⟨x, hx, k, hxg ▸ hk, hxt ▸ hre⟩

theorem State.withdrawn_mid {s : State} (h : s.mid) (hc : s.fq.calm) (g : GroupNo) (t : Tag) : (s.withdrawn g t).mid := by
  unfold State.withdrawn
  split
  · split
    · exact State.giveUp_mid h.tobase h.lead ‹_› hc _ _ _
    · split
      · exact h
      · exact State.judgeGates_mid (State.flagWithdrawn_mid h g t)
  · exact State.flagWithdrawn_mid h g t

theorem State.withdrawTake_mid {s : State} (h : s.mid) (hc : s.fq.calm) (src : Addr) (g : GroupNo) (t : Tag) :
    (s.withdrawTake src g t).mid := by
  unfold State.withdrawTake
  split
  · exact h
  · split
    · have hg := State.updGroup_mid h g ((·.emptyTag t)) (fun _ => rfl) fun e => e.emptyTag_members t
      dsimp only
      split
      · exact hg
      · exact State.withdrawn_mid hg hc g t
    · exact h

/-! ## A HALT taken -/

theorem State.setHoldPending_mid {s : State} (h : s.mid) (hm : s.mc.state.moving = true) (c : Cause) :
    (s.setHoldPending c).mid := by
  have ha := State.addCause_mid h (.inr hm) c
  exact ⟨⟨ha.queue, ha.marks, ha.notices, ⟨ha.causes.1, fun _ => withCause_ne_zero _ _, ha.causes.2.2⟩, ha.room, ha.grouped,
    ha.due, ha.committed, ha.members, ha.flight⟩, ha.lead, ha.readies⟩

theorem State.haltMove_mid_of_moving {s : State} (h : s.mid) (hm : s.mc.state.moving = true) (c : Cause) :
    (s.haltMove c).mid := by
  obtain ⟨m, rest, ks, hq, -⟩ := h.in_hand hm
  exact State.haltMove_mid h.tobase hq (h.no_readies_of_moving hm) c

/-- A HALT of another sender acts by the node state (R88 to R92). -/
theorem State.haltAct_mid {s : State} (h : s.mid) (hc : s.fq.calm) (g : GroupNo) (k : HaltKind) (c : Cause) :
    (s.haltAct g k c).mid := by
  unfold State.haltAct
  split
  case h_1 => exact h
  case h_2 hs | h_3 hs => exact State.hold_mid h (by simp [hs]) (by rw [hs]; rfl) c
  case h_4 hs => exact State.addCause_mid h (.inl hs) c
  case h_5 hs | h_6 hs => split <;> exact State.giveUp_mid h.tobase h.lead (by rw [hs]; rfl) hc _ _ _
  case h_7 hs =>
    have hm : s.mc.state.moving = true := by rw [hs]; rfl
    split
    · split
      · exact State.haltDescent_mid (State.addCause_mid h (.inr hm) c) hm c
      · exact State.haltMove_mid_of_moving h hm c
    · exact State.setHoldPending_mid h hm c
  case h_8 hs =>
    have hm : s.mc.state.moving = true := by rw [hs]; rfl
    split
    · split
      · exact State.addCause_mid h (.inr hm) c
      · exact State.haltMove_mid_of_moving h hm c
    · exact State.setHoldPending_mid h hm c

theorem State.haltTake_mid {s : State} (h : s.mid) (hc : s.fq.calm) (src : Addr) (g : GroupNo) (k : HaltKind) :
    (s.haltTake src g k).mid := by
  unfold State.haltTake
  split
  · exact h
  · have hg := State.updGroup_mid h g ((·.emptyAll)) (fun _ => rfl) fun e => e.emptyAll_members
    refine State.haltAct_mid (State.haltMeetsNotice_mid hg g k) ?_ _ _ _
    have hf := ((s.updGroup g (·.emptyAll)).haltMeetsNotice_keepsRoom g k).flight
    unfold FrameQueue.calm
    rw [hf]
    exact hc

/-! ## MARK and SCALE -/

theorem State.mem_unstarted_of_markNamers {s : State} {m : Move} (h : m ∈ s.markNamers) : m ∈ s.unstarted := by
  unfold State.markNamers at h
  split at h
  · exact List.mem_of_mem_tail h
  · exact h

/-- A MARK is recorded that an entry not started names and that has no record yet (R51, R52). -/
theorem State.markTake_mid {s : State} (h : s.mid) (src : Addr) (t : Tag) (n : Nat) (o : MarkOutcome) :
    (s.markTake src t n o).mid := by
  unfold State.markTake
  dsimp only
  split
  · exact h
  · rename_i hnew
    split
    · rename_i hn
      refine State.judgeGates_mid ⟨⟨h.queue, ?_, h.notices, h.causes, h.room, h.grouped, h.due, h.committed, h.members, h.flight⟩,
        h.lead, h.readies⟩
      refine h.marks.append_mark ?_ ?_
      · obtain ⟨m, hm, hg⟩ := List.any_eq_true.mp hn
        exact List.any_eq_true.mpr ⟨m, State.mem_unstarted_of_markNamers hm, hg⟩
      · simpa [and_assoc] using hnew
    · exact h

theorem State.recap_mid {s : State} (h : s.mid) : s.recap.mid := by
  have hcap (l : Option Nat) : (s.updLead fun x => { x with cap := l }).mid := ⟨h.tobase.congr { flight := h.flight }, h.lead, h.readies⟩
  unfold State.recap
  split
  · split
    · exact hcap _
    · exact h
  · exact h

theorem State.groupScaleTake_mid {s : State} (h : s.mid) (g p : Nat) : (s.groupScaleTake g p).mid := by
  have hg := State.updGroup_mid h g (fun e => { e with scale := p }) (fun _ => rfl) fun _ => rfl
  unfold State.groupScaleTake
  split
  · dsimp only
    split
    · split
      · exact State.recap_mid hg
      · exact hg
    · exact h
  · exact h

end Sys2Proof.Machine
end

section
/-! SUPPORT. The ends of an attempt, this node's own frame taken, an address clash and the handling common to frames and
requests keep the invariant (R42, R43, R138 to R147, R153, R156, R157). -/

-- One proof after another: elaborated side by side they need more threads than the check allows.
set_option deprecated.oldSectionVars true

namespace Sys2Proof.Machine

/-! ## The Frame Queue alone -/

/-- An operation of the Frame Queue that leaves the READYs and takes no REPLY room. -/
theorem State.updFq_mid {s : State} (h : s.mid) {f : FrameQueue → FrameQueue} (hfree : s.fq.free ≤ (f s.fq).free)
    (hr : (f s.fq).readies = s.fq.readies) (hfl : (f s.fq).inFlight.length ≤ 1) : (s.updFq f).mid :=
  h.congr { free := hfree, readies := hr, flight := hfl }

/-- A change of the link that keeps the address. -/
theorem State.updLink_mid {s : State} (h : s.mid) {f : Link → Link} (ha : (f s.link).addr = s.link.addr) :
    (s.updLink f).mid :=
  h.congr { addr := ha, flight := h.flight }

theorem State.requeue_mid {s : State} (h : s.mid) : (s.updFq FrameQueue.requeue).mid :=
  State.updFq_mid h (by simp) (by simp) (by simp)

/-- The entry in transmission leaves, when it is no READY (R153). -/
theorem State.endSending_mid {s : State} (h : s.mid) (hc : s.fq.calm) : (s.updFq FrameQueue.endSending).mid :=
  State.updFq_mid h s.fq.free_endSending_le (s.fq.readies_endSending hc) (by simp)

theorem State.afterSlot_mid {s : State} (h : s.mid) (m : SlotMarks) : (s.afterSlot m).mid := State.updLink_mid h rfl

theorem State.restartBeacon_mid {s : State} (h : s.mid) : s.restartBeacon.mid := h.congr { flight := h.flight }

/-! ## The reservation -/

/-- The reservation ends (R156). -/
theorem State.unreserve_mid {s : State} (h : s.mid) : (s.reserve false).mid :=
  State.updFq_mid h s.fq.free_reserved_false rfl h.flight

/-- An entry is reserved where the slot found room, so that the head keeps its own (R141, R156). -/
theorem State.reserve_mid {s : State} (h : s.mid) (hr : s.hasRoom = true) : (s.reserve true).mid := by
  have hfree : 0 < s.fq.free → 0 < ({ s.fq with reserved := true } : FrameQueue).free := by
    rw [State.hasRoom, Bool.or_eq_true, decide_eq_true_eq] at hr
    simp only [FrameQueue.free, FrameQueue.count_reserved] at hr ⊢
    rcases hr with hr | hr
    · simp [hr]
    · simp only [if_true]
      split at hr <;> omega
  exact ⟨⟨h.queue, h.marks, h.notices, h.causes, fun hb => ⟨hfree (h.room hb).1, (h.room hb).2⟩, h.grouped, h.due, h.committed,
    h.members, h.flight⟩, h.lead, h.readies⟩

theorem State.unreserved_mid {s : State} (h : s.mid) : s.unreserved.mid := by
  unfold State.unreserved
  split
  · exact State.replyFreed_mid (State.unreserve_mid h)
  · exact h

theorem State.unreserved_flight (s : State) : s.unreserved.fq.inFlight = s.fq.inFlight := by
  unfold State.unreserved
  split
  · exact (s.reserve false).replyFreed_keepsReadies.flight
  · rfl

theorem State.released_mid {s : State} (h : s.mid) : s.released.mid := by
  unfold State.released
  split
  · exact State.finish_mid (State.unreserved_mid h)
  · exact h

/-- A reply fills the entry reserved for it, or goes out from a node that is not busy with a head (R156). -/
theorem State.fill_mid {s : State} (h : s.mid) {f : OutFrame} (hf : f.cls = .reply)
    (hr : s.fq.reserved = true ∨ s.mc.state.busy = false) : (s.fill f).mid := by
  have hready : (s.fill f).fq.readies = s.fq.readies := by
    have : f.isReady = false := OutFrame.isReady_of_cls (by simp [hf])
    simp [this]
  refine ⟨⟨h.queue, h.marks, h.notices, h.causes, fun hb => ?_, h.grouped, h.due, h.committed, h.members,
    by simpa using h.flight⟩, h.lead, ?_⟩
  · rcases hr with hr | hr
    · exact ⟨(s.fq.free_fill hf hr).symm ▸ (h.room hb).1, (h.room hb).2⟩
    · exact absurd (NodeState.busy_iff.mpr hb) (by simp [hr])
  · exact State.readiesOk_congr h.readies rfl hready

/-! ## Ends of an attempt -/

/-- A frame returns to the queue, none being in transmission then (R42, R96). -/
theorem State.returned_mid {s : State} (h : s.mid) (hc : s.fq.calm) (f : OutFrame) : (s.returned f).mid := by
  unfold State.returned
  split
  · split
    · exact h
    · rename_i k ks hk
      have hs : s.mc.state = .announcing := h.causes.2.2.1 (by simp [hk])
      exact State.giveUp_mid h.tobase h.lead (by rw [hs]; rfl) hc _ _ _
  · exact State.noticeReturned_mid h _
  · exact h

theorem State.returned_keepsFlight (f : OutFrame) (s : State) : s.fq.KeepsFlight (s.returned f).fq := by
  unfold State.returned
  split
  · split
    · exact .refl _
    · exact s.giveUp_keepsFlight _ _ _
  · exact (s.noticeReturned_keepsRoom _).toKeepsFlight
  · exact .refl _

theorem FrameQueue.calm_requeue (q : FrameQueue) : q.requeue.calm := FrameQueue.calm_of_inFlight (by simp)

theorem State.attemptLost_mid {s : State} (h : s.mid) : s.attemptLost.mid := by
  unfold State.attemptLost
  split
  · exact h
  · exact State.finish_mid (State.returned_mid (State.updLink_mid (State.requeue_mid h) rfl) s.fq.calm_requeue _)

/-- No attempt of this node stands after one was lost (R138). -/
theorem State.attemptLost_flight (s : State) : s.attemptLost.fq.inFlight = [] := by
  unfold State.attemptLost
  split
  · exact (s.fq.sending_eq_none_iff).mp ‹_›
  · have hk (u : State) (f : OutFrame) (hu : u.link.idleCount ≠ 12) : (u.returned f).finish.fq.inFlight = u.fq.inFlight :=
      ((u.returned_keepsFlight f).trans (State.finish_keepsFlight (by simpa using hu))).flight
    rw [hk _ _ (by simp)]
    exact s.fq.inFlight_requeue

@[simp] theorem State.attemptLost_addr (s : State) : s.attemptLost.link.addr = s.link.addr := by
  unfold State.attemptLost
  split <;> simp

/-- A frame is discarded: its entry has left the queue (R144). -/
theorem State.discard_mid {s : State} (h : s.mid) {e : Entry} (he : s.fq.inFlight = [e]) : (s.discard e.frame).mid := by
  have h1 : (s.updLink fun l => { l with state := .listenOnly, rejects := 0, listenTimer := some Config.listenMs }).mid :=
    State.updLink_mid h rfl
  have hcalm : ∀ u : State, u.fq.inFlight = s.fq.endSending.inFlight → u.fq.calm := fun u hu =>
    FrameQueue.calm_of_inFlight (by simp [hu])
  have hend (hr : e.frame.isReady = false) := State.endSending_mid h1 (by simpa [FrameQueue.calm, he] using hr)
  unfold State.discard State.discardLink State.discardTold
  dsimp only
  cases hf : e.frame <;> simp only [hf, OutFrame.cls] at hend ⊢
  case halt g k c t =>
    have hk := State.noticeDiscarded_mid (hend rfl) g
    exact State.takeLink_mid hk (hcalm _ (State.noticeDiscarded_keepsRoom g _).flight)
  case ready g t =>
    have hb : ((s.updLink fun l =>
        { l with state := .listenOnly, rejects := 0, listenTimer := some Config.listenMs }).updFq FrameQueue.endSending).base :=
      h1.tobase.congr { free := s.fq.free_endSending_le, flight := by simp }
    refine State.linkDone_mid (State.linkCause_mid hb h1.lead (fun hs => ?_) (hcalm _ rfl))
    have hno := h.readies.1 hs
    have hmem : e.frame ∈ s.fq.readies :=
      FrameQueue.mem_readies.mpr ⟨by rw [hf]; rfl, e, List.mem_of_mem_filter (he ▸ List.mem_singleton_self e), rfl⟩
    simp [hno] at hmem
  case withdraw => exact State.takeLink_mid (hend rfl) (hcalm _ rfl)
  case mark => exact State.takeLink_mid (hend rfl) (hcalm _ rfl)
  case ack | nak | status | report => exact State.replyFreed_mid (hend rfl)
  case beacon => exact hend rfl

/-- The one entry in transmission (R137). -/
theorem State.mid.sending_some {s : State} (h : s.mid) {e : Entry} (he : s.fq.sending = some e) : s.fq.inFlight = [e] := by
  rw [FrameQueue.sending_eq_head?] at he
  obtain ⟨rest, hr⟩ := List.head?_eq_some_iff.mp he
  have hl := h.flight
  rw [hr] at hl ⊢
  have h0 : rest = [] := List.length_eq_zero_iff.mp (by simpa using hl)
  rw [h0]

theorem State.attemptRejected_mid {s : State} (h : s.mid) : s.attemptRejected.mid := by
  unfold State.attemptRejected
  split
  · exact h
  · split
    · exact State.returned_mid (State.updLink_mid (State.requeue_mid h) rfl) s.fq.calm_requeue _
    · exact State.discard_mid h (h.sending_some ‹_›)

theorem State.attemptBusy_mid {s : State} (h : s.mid) : s.attemptBusy.mid := by
  unfold State.attemptBusy
  split
  · exact h
  · rename_i e he
    split
    · rename_i hr
      have hl : (s.updLink fun l => { l with rejects := 0 }).mid := State.updLink_mid h rfl
      have hc : s.fq.calm := by
        simpa [FrameQueue.calm, h.sending_some he] using OutFrame.isReady_of_cls (show e.frame.cls ≠ .sync by simp [hr])
      dsimp only
      split
      · exact State.updFq_mid hl (by simp) (by simp) (by simp)
      · exact State.replyFreed_mid (State.endSending_mid hl hc)
    · exact State.attemptRejected_mid h

end Sys2Proof.Machine
end

section
/-! SUPPORT. This node's own frame taken keeps the invariant: its READY, with the causes kept meanwhile, and its other frames
(R29, R42, R43, R142, R153). -/

-- One proof after another: elaborated side by side they need more threads than the check allows.
set_option deprecated.oldSectionVars true

namespace Sys2Proof.Machine

/-! ## The READY in transmission -/

/-- The one entry in transmission is the one READY of the queue (R32, R137). -/
def FrameQueue.sendsReady (q : FrameQueue) (e : Entry) : Prop :=
  q.inFlight = [e] ∧ e.frame.isReady = true ∧ q.readies.length ≤ 1

/-- None is left of the READY that was in transmission (R32, R153). -/
theorem FrameQueue.sendsReady.readies_endSending {q : FrameQueue} {e : Entry} (h : q.sendsReady e) :
    q.endSending.readies = [] := by
  obtain ⟨he, hr, hl⟩ := h
  have hc := q.length_readies
  rw [he, List.countP_singleton, if_pos hr] at hc
  exact List.length_eq_zero_iff.mp (by omega)

theorem FrameQueue.sendsReady.removeReady {q : FrameQueue} {e : Entry} (h : q.sendsReady e) :
    (q.removeQueued OutFrame.isReady).sendsReady e := by
  obtain ⟨he, hr, hl⟩ := h
  refine ⟨by simpa using he, hr, le_trans ?_ hl⟩
  exact ((List.filter_sublist.map _).filter _).length_le

theorem FrameQueue.sendsReady.of_keeps {q r : FrameQueue} {e : Entry} (h : q.sendsReady e) (hk : q.KeepsReadies r) :
    r.sendsReady e :=
  ⟨hk.flight.trans h.1, h.2.1, hk.readies ▸ h.2.2⟩

/-- The READY that this node sends is its head's: the node is ANNOUNCING, and the group table has this node in the head's
group (R10, R25, R32). -/
theorem State.mid.own_ready {s : State} (h : s.mid) {e : Entry} {g : GroupNo} {t : Tag} (he : s.fq.inFlight = [e])
    (hf : e.frame = .ready g t) :
    s.mc.state = .announcing ∧ s.headIs g t = true ∧ s.fq.readies.length = 1 ∧
      ∃ x, s.groupEntry g = some x ∧ s.self ∈ x.members := by
  have hmem : OutFrame.ready g t ∈ s.fq.readies :=
    FrameQueue.mem_readies.mpr ⟨rfl, e, List.mem_of_mem_filter (he ▸ List.mem_singleton_self e), hf⟩
  have hs : s.mc.state = .announcing := by
    by_contra hs
    simp [h.readies.1 hs] at hmem
  obtain ⟨m, hm, k, hk, hr⟩ := h.readies.2 hs
  rw [hr, List.mem_singleton, OutFrame.ready.injEq] at hmem
  obtain ⟨rfl, rfl⟩ := hmem
  obtain ⟨x, hx, hxg⟩ := h.members.2.2 m (List.mem_of_mem_head? hm) _ hk
  refine ⟨hs, ?_, by simp [hr], ?_⟩
  · have hh : s.head = some m := hm
    have hg : m.group = some g := hk
    simp [State.headIs, hh, hg]
  · cases hge : s.groupEntry g with
    | none => exact absurd hxg (by simpa using (State.groupEntry_isNone_iff s g).mp (by simp [hge]) x hx)
    | some y => exact ⟨y, rfl, h.members.2.1 y (List.mem_of_find?_eq_some hge)⟩

/-- The causes kept during the READY's transmission are taken up (R42). -/
theorem State.keptTaken_mid {s : State} (h : s.mid) : (s.updMc fun m => { m with kept := [] }).mid :=
  ⟨⟨h.queue, h.marks, h.notices, ⟨h.causes.1, h.causes.2.1, fun hh => absurd rfl hh, nofun⟩, h.room, h.grouped, h.due,
    h.committed, h.members, h.flight⟩, h.lead, h.readies⟩

/-- An announced head whose READY this node sends starts, and the READY's entry leaves (R34, R153). -/
theorem State.own_start_mid {s : State} {e : Entry} {m : Move} (h : s.mid) (hr : s.fq.sendsReady e)
    (ha : s.mc.state.announced = true) (hm : s.head = some m) :
    ((s.removeReady.startMove m).updFq FrameQueue.endSending).mid := by
  obtain ⟨rest, hq⟩ := List.head?_eq_some_iff.mp hm
  obtain ⟨hfree, hrec, -⟩ := h.room (.inl ha)
  have hle := (s.fq.free_removeQueued_le OutFrame.isReady).trans (FrameQueue.free_endSending_le _)
  have hb : (s.removeReady.updFq FrameQueue.endSending).base := h.tobase.congr { free := hle, flight := by simp }
  exact State.startMove_mid hb hq (hfree.trans_le hle) hrec hr.removeReady.readies_endSending

/-- An announced head whose READY this node sends is given up, and the READY's entry leaves (R37, R153). -/
theorem State.own_giveUp_mid {s : State} {e : Entry} (h : s.mid) (hr : s.fq.sendsReady e)
    (ha : s.mc.state.announced = true) (o : RetireOutcome) (c : Cause) :
    ((s.giveUp o c []).updFq FrameQueue.endSending).mid := by
  have hk : s.removeReady.fq.KeepsReadies (s.giveUp o c []).fq := s.removeReady.retire_keepsReadies o (some c)
  have hb : ((s.giveUp o c []).updFq FrameQueue.endSending).base :=
    (State.giveUp_base h.tobase ha o c).congr { free := FrameQueue.free_endSending_le _, flight := by simp }
  refine State.mid_of_not_busy hb ?_ ?_ (hr.removeReady.of_keeps hk).readies_endSending
  · rw [State.updFq_mc, State.giveUp_held h.tobase ha]
    rfl
  · simpa using s.lead_stopped h.lead (NodeState.not_moving_of_announced ha)

/-- The node is ARMED once its READY was taken, and the READY's entry leaves (R29, R153). -/
theorem State.own_armed_mid {s : State} {e : Entry} (h : s.mid) (hr : s.fq.sendsReady e) (hs : s.mc.state = .announcing)
    (hk : s.mc.kept = []) :
    ((s.updMc fun m => { m with state := .armed }).updFq FrameQueue.endSending).mid := by
  have ha : s.mc.state.announced = true := by rw [hs]; rfl
  have hm := NodeState.not_moving_of_announced ha
  obtain ⟨hfree, hroom⟩ := h.room (.inl ha)
  have hc := h.causes.1
  rw [hs] at hc
  have hmarks := h.marks
  rw [State.unstarted_of_not_moving hm] at hmarks
  refine ⟨⟨h.queue, hmarks, h.notices, ⟨hc, h.causes.2.1, fun hh => absurd hk hh, h.causes.2.2.2⟩,
    fun _ => ⟨hfree.trans_le s.fq.free_endSending_le, hroom⟩, fun _ => h.grouped ha, fun _ => nofun, ?_, h.members, by simp⟩,
    State.leadOk_of_stopped (s.lead_stopped h.lead hm) rfl, fun _ => hr.readies_endSending, nofun⟩
  exact iff_of_true (h.tobase.committed_of_queue hc.1) nofun

/-- The start event of the announced head (R34). -/
theorem State.startEvent_of_head (s : State) {g : GroupNo} {t : Tag} {m : Move} (ha : s.mc.state.announced = true)
    (hh : s.headIs g t = true) (hm : s.head = some m) :
    s.startEvent g t = (s.updGroup g (·.emptyTag t)).removeReady.startMove m := by
  have hc : ((s.updGroup g (·.emptyTag t)).mc.state.announced && (s.updGroup g (·.emptyTag t)).headIs g t) = true :=
    Bool.and_eq_true_iff.mpr ⟨ha, hh⟩
  have hm' : (s.updGroup g (·.emptyTag t)).head = some m := hm
  unfold State.startEvent
  dsimp only
  rw [if_pos hc, hm']

theorem State.headIs_some {s : State} {g : GroupNo} {t : Tag} (h : s.headIs g t = true) : ∃ m, s.head = some m := by
  cases hh : s.head with
  | none => simp [State.headIs, hh] at h
  | some m => exact ⟨m, rfl⟩

/-- This node's own READY is taken, and its entry leaves: the move starts, or the head fails, or the node is ARMED (R29, R34,
R37). -/
theorem State.own_readyTake_mid {s : State} (h : s.mid) {e : Entry} {g : GroupNo} {t : Tag} (he : s.fq.inFlight = [e])
    (hf : e.frame = .ready g t) (hkept : s.mc.kept = []) :
    ((s.readyTake s.self g t).updFq FrameQueue.endSending).mid := by
  obtain ⟨hs, hhead, hlen, x, hx, hself⟩ := h.own_ready he hf
  have hr : s.fq.sendsReady e := ⟨he, by rw [hf]; rfl, hlen.le⟩
  have hann : s.mc.state.announced = true := by rw [hs]; rfl
  have hg := State.updGroup_mid h g ((·.write s.self (some t))) (fun _ => rfl) fun x => x.write_members _ _
  unfold State.readyTake
  rw [hx]
  dsimp only
  rw [if_pos hself]
  split
  · have hg' := State.updGroup_mid hg g ((·.emptyTag t)) (fun _ => rfl) fun x => x.emptyTag_members t
    obtain ⟨m, hm⟩ := State.headIs_some hhead
    rw [(s.updGroup g _).startEvent_of_head hann hhead hm]
    exact State.own_start_mid hg' hr hann hm
  · split
    · exact State.own_giveUp_mid hg hr hann _ _
    · rw [if_pos ⟨rfl, hs, hhead⟩]
      exact State.own_armed_mid hg hr hs hkept

/-! ## The causes kept -/

theorem causeInNotice_of_failureCause {c : Cause} (h : c ∈ failureCauses) : causeInNotice c = true := by
  simp only [failureCauses, List.mem_cons, List.not_mem_nil, or_false] at h
  rcases h with rfl | rfl | rfl | rfl | rfl <;> rfl

/-- A kept cause acts on a RUNNING move (R42). -/
theorem State.actOnKept_mid {s : State} (h : s.mid) (hm : s.mc.state.moving = true) {c : Cause} (hc : c ∈ failureCauses) :
    (s.actOnKept c).mid ∧ ((s.actOnKept c).mc.state = .held ∨ (s.actOnKept c).mc.state.moving = true) := by
  unfold State.actOnKept
  split
  · exact ⟨State.stopMove_mid h hm _ rfl, .inl (State.stopMove_held h hm _ _)⟩
  · exact ⟨State.rampMove_mid h hm rfl, State.rampMove_state h hm _⟩
  · exact ⟨State.stopMove_mid h hm _ (causeInNotice_of_failureCause hc), .inl (State.stopMove_held h hm _ _)⟩

/-- The decision on the causes kept (R42, R43). -/
theorem State.decideKept_mid {s : State} (h : s.mid) {kept : List Cause} (hk : ∀ c ∈ kept, c ∈ failureCauses) :
    (s.decideKept kept).mid := by
  unfold State.decideKept
  split
  · rename_i hs
    have hm : s.mc.state.moving = true := by rw [hs]; rfl
    split
    · exact h
    · rename_i k ks hf
      have hmem : k ∈ kept.filter fun c => decide (c ≠ .rollTimeout) := hf ▸ List.mem_cons_self
      obtain ⟨ha, hst⟩ := State.actOnKept_mid h hm (hk k (List.mem_of_mem_filter hmem))
      exact State.addCauses_mid ha hst ks
  · rename_i hs
    split
    · exact h
    · exact State.giveUp_mid h.tobase h.lead (by rw [hs]; rfl) (h.calm_of_not_announcing (by simp [hs])) _ _ _
  · exact State.addCauses_mid h (.inl ‹_›) kept
  · exact h

/-! ## Own frames -/

/-- This node's own WITHDRAW acts on the rolls only (R39). -/
theorem State.withdrawTake_self_fq (s : State) (g : GroupNo) (t : Tag) : (s.withdrawTake s.self g t).fq = s.fq := by
  unfold State.withdrawTake
  split
  · rfl
  · split
    · rw [if_pos rfl]
      rfl
    · rfl

/-- This node's own frame is dispatched, and its entry leaves (R142, R153). -/
theorem State.ownDispatch_mid {s : State} (h : s.mid) {e : Entry} (he : s.fq.inFlight = [e]) : (s.ownDispatch e.frame).mid := by
  have hcalm (hr : e.frame.isReady = false) : s.fq.calm := by simpa [FrameQueue.calm, he] using hr
  unfold State.ownDispatch
  split
  case h_1 g t hf =>
    exact State.decideKept_mid (State.own_readyTake_mid (State.keptTaken_mid h) he hf rfl) h.causes.2.2.2
  case h_2 g t c hf =>
    have hc := hcalm (by rw [hf]; rfl)
    exact State.endSending_mid (State.withdrawTake_mid h hc s.self g t) (by rwa [State.withdrawTake_self_fq])
  case h_3 g k c t hf =>
    have hg := State.updGroup_mid h g ((·.emptyAll)) (fun _ => rfl) fun e => e.emptyAll_members
    exact State.noticeTaken_mid (State.endSending_mid hg (hcalm (by rw [hf]; rfl))) g
  case h_4 t n o hf =>
    exact State.endSending_mid (State.markTake_mid h _ _ _ _) (by simpa using hcalm (by rw [hf]; rfl))
  case h_5 hf => exact State.endSending_mid h (hcalm (by rw [hf]; rfl))
  case h_6 hf | h_7 hf | h_8 hf | h_9 hf =>
    exact State.replyFreed_mid (State.endSending_mid h (hcalm (by rw [hf]; rfl)))

/-! ## The ends of a slot -/

theorem State.ownTaken_mid {s : State} (h : s.mid) : s.ownTaken.mid := by
  unfold State.ownTaken
  split
  · exact h
  · rename_i e he
    have hu := State.unreserved_mid (State.afterSlot_mid h SlotMarks.none)
    have hl : ((s.afterSlot SlotMarks.none).unreserved.updLink fun l => { l with rejects := 0 }).mid := State.updLink_mid hu rfl
    exact State.finish_mid (State.ownDispatch_mid (State.restartBeacon_mid hl)
      ((State.unreserved_flight _).trans (h.sending_some he)))

theorem State.slotRejects_mid {s : State} (h : s.mid) (own : Bool) (m : SlotMarks) : (s.slotRejects own m).mid := by
  have ha := State.afterSlot_mid h m
  unfold State.slotRejects
  split
  · exact State.finish_mid (State.attemptRejected_mid (State.unreserved_mid ha))
  · exact State.released_mid ha

/-- An address clash (R147). -/
theorem State.clash_mid {s : State} (h : s.mid) : s.clash.mid := by
  have hq := State.requeue_mid h
  have hblocked : ∀ u : State, u.mid → u.fq.inFlight = [] →
      (((u.afterSlot SlotMarks.none).updLink fun l =>
        { l with state := .blocked, listenTimer := none, rejects := 0 }).restartBeacon.unreserved.takeLink.finish).mid := by
    intro u hu hf
    have hb : ((u.afterSlot SlotMarks.none).updLink fun l =>
        { l with state := .blocked, listenTimer := none, rejects := 0 }).mid :=
      State.updLink_mid (State.afterSlot_mid hu _) rfl
    refine State.finish_mid (State.takeLink_mid (State.unreserved_mid (State.restartBeacon_mid hb)) (FrameQueue.calm_of_inFlight ?_))
    exact (State.unreserved_flight _).trans hf
  have hr : (s.updFq FrameQueue.requeue).fq.inFlight = [] := s.fq.inFlight_requeue
  unfold State.clash
  dsimp only
  split
  · split
    · exact hblocked _ (State.noticeReturned_mid hq _) (((s.updFq _).noticeReturned_keepsRoom _).flight.trans hr)
    · exact hblocked _ hq hr
  · exact hblocked _ hq hr

/-! ## Taking a frame -/

/-- A frame is taken: this node's own, one that clashes with its address, or another party's, with no attempt of this node
left (R142, R147). -/
theorem State.takeHeld_mid {s : State} (h : s.mid) (src : Addr) (own : OutFrame → Bool) {act : State → State}
    (ha : ∀ u : State, u.mid → u.fq.inFlight = [] → u.link.idleCount = 0 → src ≠ u.self → (act u).mid) :
    (s.takeHeld src own act).mid := by
  unfold State.takeHeld
  split
  · exact State.afterSlot_mid h _
  · split
    · split
      · exact State.ownTaken_mid h
      · exact State.clash_mid h
    · rename_i hsrc
      refine ha _ (State.afterSlot_mid (State.attemptLost_mid h) _) s.attemptLost_flight rfl ?_
      simpa [State.self] using hsrc

theorem State.takeFrom_mid {s : State} (h : s.mid) (src : Addr) (own : OutFrame → Bool) {act : State → State}
    (ha : ∀ u : State, u.mid → u.fq.inFlight = [] → u.link.idleCount = 0 → src ≠ u.self → (act u).mid) :
    (s.takeFrom src own act).mid :=
  State.takeHeld_mid (State.released_mid h) src own ha

/-- What a frame of coordination sets going: its sender is heard, the frame acts, and the event ends (R142). -/
theorem State.takeHeard_mid {s : State} (h : s.mid) (src : Addr) (k : Heard) (own : OutFrame → Bool) {act : State → State}
    (ha : ∀ u : State, u.mid → u.fq.calm → src ≠ u.self → (act u).mid) :
    (s.takeFrom src own fun s => (act (s.hear src k)).finish).mid := by
  refine State.takeFrom_mid h src own fun u hu hf _ hsrc => State.finish_mid (ha _ (State.hear_mid hu src k) ?_ ?_)
  · exact FrameQueue.calm_of_inFlight ((State.hear_keepsFlight src k u).flight.trans hf)
  · simpa [State.self] using hsrc

/-! ## Requests -/

/-- A request, if its action and its reply with what follows keep the invariant of a state with an entry reserved and no
attempt of this node in hand (R141, R156, R157). -/
theorem State.request_mid {s : State} (h : s.mid) (src num : Nat) (k : RequestKind) {act : State → State × Reply}
    {after : State → State} (hafter : ∀ u : State, u.mid → (after u).mid)
    (ha : ∀ u : State, u.mid → u.fq.inFlight = [] → u.fq.reserved = true →
      (act u).1.mid ∧ ((act u).1.fq.reserved = true ∨ (act u).1.mc.state.busy = false)) :
    (s.request src num k act after).mid := by
  unfold State.request
  split
  · exact State.afterSlot_mid h _
  · by_cases hsrc : src = s.self
    · simp only [if_pos hsrc]
      split
      · exact State.slotRejects_mid h _ _
      · exact State.clash_mid h
    · have hl := State.attemptLost_mid h
      simp only [if_neg hsrc]
      split
      · exact State.slotRejects_mid hl _ _
      · rename_i hroom
        have hh := State.hear_mid (State.afterSlot_mid hl SlotMarks.none) src .alive
        have hr : s.attemptLost.hasRoom = true := by simpa using hroom
        obtain ⟨hm, hres⟩ := ha _ (State.reserve_mid hh hr) s.attemptLost_flight rfl
        exact hafter _ (State.fill_mid hm (Reply.frame_cls ..) hres)

end Sys2Proof.Machine
end

section
/-! SUPPORT. The requests keep the invariant: configuration, COMMIT and RESTART, and the requests of a configured node (R5 to
R9, R78, R84, R98, R101, R103 to R105, R123, R124, R131, R134). -/

-- One proof after another: elaborated side by side they need more threads than the check allows.
set_option deprecated.oldSectionVars true

namespace Sys2Proof.Machine

/-- No check of an ordered list fails. -/
theorem firstFailing_eq_none_iff {α : Type} {l : List (Bool × α)} : firstFailing l = none ↔ ∀ p ∈ l, p.1 = false := by
  induction l with
  | nil => simp [firstFailing]
  | cons p l ih =>
    obtain ⟨b, a⟩ := p
    cases b <;> simp [firstFailing, ih]

/-! ## Configuration -/

/-- A record is stored only before COMMIT, while the node is UNCONFIGURED (R122, R123). -/
theorem State.configure_mid {s : State} (h : s.mid) (checks : List (Bool × NakReason)) (store : Store → Store)
    (hc : (store s.store).committed = s.store.committed)
    (hg : firstFailing checks = none → ∀ r ∈ (store s.store).groups, s.self ∈ r.members ∧ s.self ≤ 30) :
    (s.configure checks store).1.mid := by
  unfold State.configure
  split
  · exact h
  · rename_i hcom
    split
    · exact h
    · rename_i hok
      have hu : s.mc.state = .unconfigured := by
        by_contra hu
        exact hcom (h.committed.mpr hu)
      have hb : s.mc.state.busy = false := by rw [hu]; rfl
      refine State.mid_of_not_busy (State.base_of_not_busy hb h.queue ?_ h.notices h.causes ?_ ⟨hg hok, h.members.2⟩ h.flight)
        hb (h.lead_stopped hb) (h.no_readies hb)
      · exact State.unstarted_of_not_moving (NodeState.not_moving_of_not_busy hb) ▸ h.marks
      · show (store s.store).committed = true ↔ _
        rw [hc]
        exact h.committed

theorem State.configure_fq (s : State) (checks : List (Bool × NakReason)) (store : Store → Store) :
    (s.configure checks store).1.fq = s.fq := by
  unfold State.configure
  split
  · rfl
  · split <;> rfl

theorem mem_putGroup {r x : GroupRecord} {rs : List GroupRecord} (h : x ∈ putGroup r rs) : x = r ∨ x ∈ rs := by
  unfold putGroup at h
  split at h
  · obtain ⟨y, hy, rfl⟩ := List.mem_map.mp h
    split
    · exact .inl rfl
    · exact .inr hy
  · simpa [or_comm] using h

/-- A GROUP record that passes its checks has this node among its members (R124). -/
theorem State.groupChecks_member {s : State} {g : Nat} {ms : List Nat} (h : firstFailing (s.groupChecks g ms) = none) :
    s.self ∈ ms ∧ s.self ≤ 30 := by
  simp only [firstFailing_eq_none_iff, State.groupChecks, List.forall_mem_cons] at h
  obtain ⟨hf, hm, -⟩ := h
  have hmem : s.self ∈ ms := by simpa using hm
  simp only [Bool.not_eq_false', Bool.and_eq_true, List.all_eq_true] at hf
  exact ⟨hmem, (within_eq_true_iff.mp (hf.1.2 _ hmem)).2⟩

/-! ## COMMIT -/

theorem mem_ascendingAddrs {a : Addr} {ms : List Nat} : a ∈ ascendingAddrs ms ↔ a ≤ 30 ∧ a ∈ ms := by
  simp [ascendingAddrs, Nat.lt_succ_iff]

theorem GroupRecord.entry_members (r : GroupRecord) : r.entry.members = ascendingAddrs r.members := by
  simp [GroupEntry.members, GroupRecord.entry, Function.comp_def]

theorem State.commitBuild_mid {s : State} (h : s.mid) (hu : s.mc.state = .unconfigured) : s.commitBuild.mid := by
  have hb : s.mc.state.busy = false := by rw [hu]; rfl
  have hc := h.causes.1
  rw [hu] at hc
  have hmarks := h.marks
  rw [State.unstarted_of_not_moving (NodeState.not_moving_of_not_busy hb), hc.1] at hmarks
  have hkept := s.kept_of_not_announcing h.causes (by simp [hu])
  refine State.mid_of_not_busy (State.base_of_not_busy rfl ⟨Nat.zero_le _, List.nodup_nil, nofun⟩ hmarks h.notices
    ⟨⟨rfl, rfl⟩, nofun, fun hk => absurd hkept hk, h.causes.2.2.2⟩ (iff_of_true rfl nofun)
    ⟨h.members.1, fun e he => ?_, nofun⟩ h.flight) rfl (h.lead_stopped hb) (h.no_readies hb)
  obtain ⟨r, hr, rfl⟩ := List.mem_map.mp he
  obtain ⟨hm, hs⟩ := h.members.1 r hr
  rw [GroupRecord.entry_members]
  exact mem_ascendingAddrs.mpr ⟨hs, hm⟩

/-- The states in which COMMIT leaves the node are not busy with a head. -/
theorem NodeState.of_idle_or_held {st : NodeState} (h : st = .idle ∨ st = .held) : st ≠ .unconfigured ∧ st.busy = false := by
  rcases h with rfl | rfl <;> exact ⟨nofun, rfl⟩

theorem State.judgeInput_mid {s : State} (h : s.mid) (hs : s.mc.state = .idle ∨ s.mc.state = .held) (i : InputName) (c : Cause) :
    (s.judgeInput i c).mid := by
  unfold State.judgeInput
  split
  · have ho : (s.updOut fun o => { o with dren := false }).mid := h.congr { flight := h.flight }
    exact State.hold_mid ho (NodeState.of_idle_or_held hs).1 (NodeState.of_idle_or_held hs).2 c
  · exact h

/-- A COMMIT ends IDLE or HELD (R98, R101, R131). -/
theorem State.commitEffect_mid {s : State} (h : s.mid) (hu : s.mc.state = .unconfigured) :
    s.commitEffect.mid ∧ s.commitEffect.mc.state.busy = false := by
  have h0 : s.commitBuild.mc.state = .idle ∨ s.commitBuild.mc.state = .held := .inl rfl
  have h1 := State.judgeInput_state .dalm .driveAlarm h0
  have h2 := State.judgeInput_state .stopin .stopInput h1
  have hm := State.judgeInput_mid (State.judgeInput_mid (State.commitBuild_mid h hu) h0 .dalm .driveAlarm) h1 .stopin .stopInput
  unfold State.commitEffect State.judgeBlocked
  split
  · refine ⟨State.takeLink_mid hm (hm.calm_of_not_announcing ?_), ?_⟩
    · exact NodeState.ne_announcing_of_not_busy (NodeState.of_idle_or_held h2).2
    · unfold State.takeLink State.linkCause
      rcases h2 with h2 | h2 <;> rw [h2]
      · rfl
      · simp [h2, NodeState.busy, NodeState.announced, NodeState.moving]
  · exact ⟨hm, (NodeState.of_idle_or_held h2).2⟩

/-! ## Power-on and RESTART -/

/-- A state whose blocks are those of power-on keeps the invariant (R121, R134). -/
theorem State.blank_mid {t : State} (hmc : t.mc = MoveCtl.powerOn) (hfq : t.fq = FrameQueue.powerOn)
    (hstore : t.store = Store.powerOn) (hroll : t.roll = RollUnit.powerOn) (hgate : t.gate = GateUnit.powerOn)
    (hl : t.lead.stopped) : t.mid := by
  refine State.mid_of_not_busy (State.base_of_not_busy ?_ ?_ ?_ ?_ ?_ ?_ ?_ ?_) ?_ hl ?_
  all_goals simp [State.queueOk, State.causesOk, State.membersOk, noticesFit, marksFit, hmc, hfq, hstore, hroll, hgate,
    MoveCtl.powerOn, FrameQueue.powerOn, Store.powerOn, RollUnit.powerOn, GateUnit.powerOn, NodeState.busy,
    NodeState.announced, NodeState.moving, FrameQueue.inFlight, FrameQueue.readies]

theorem State.powerOn_mid (a : BitVec 5) (r : BitVec 2) (i : Inputs) (p : List Sys2Proof.Instr) : (State.powerOn a r i p).mid :=
  State.blank_mid rfl rfl rfl rfl rfl ⟨rfl, rfl⟩

theorem State.underReset_mid (s : State) : s.underReset.mid := State.blank_mid rfl rfl rfl rfl rfl ⟨rfl, rfl⟩

theorem State.restarted_mid (s : State) : s.restarted.mid := State.blank_mid rfl rfl rfl rfl rfl ⟨rfl, rfl⟩

/-! ## LOAD and FLUSH -/

/-- What the checks of an accepted LOAD say of its move (R6, R7). -/
theorem State.loadChecks_none {s : State} {src : Addr} {f : LoadFields}
    (h : firstFailing (s.loadChecks f (moveOf src f)) = none) :
    loadBadField f = false ∧ f.distance.toInt.natAbs ≤ f.leadLength ∧
    (∀ g, f.group = some g → ∃ e ∈ s.roll.groups, e.number = g) ∧ (∀ x ∈ s.mc.queue, x.tag ≠ f.tag) ∧
    s.mc.queue.length < 16 ∧ ((s.unstarted ++ [moveOf src f]).flatMap (·.gates)).dedup.length ≤ 8 := by
  simp only [firstFailing_eq_none_iff, State.loadChecks, List.forall_mem_cons] at h
  obtain ⟨hbad, -, -, hdist, hgroup, htag, hfull, hgates, -, -⟩ := h
  refine ⟨hbad, not_lt.mp (of_decide_eq_false hdist), fun g hg => ?_,
    fun x hx he => List.any_eq_false.mp htag x hx (decide_eq_true he),
    not_le.mp (of_decide_eq_false hfull), by simpa [Config.markListDepth, gatesOf] using hgates⟩
  have hg' : (moveOf src f).group = some g := hg
  rw [hg'] at hgroup
  by_contra hno
  have : (s.groupEntry g).isNone = true := (s.groupEntry_isNone_iff g).mpr (by simpa using hno)
  simp [this] at hgroup

/-- The lead of an accepted LOAD has at least one step (R7). -/
theorem lead_pos_of_fields {f : LoadFields} (h : loadBadField f = false) : 1 ≤ f.leadLength := by
  simp only [loadBadField, Bool.or_eq_false_iff, Bool.not_eq_false', within_eq_true_iff] at h
  omega

/-- The queue with a new move at its tail (R6). -/
theorem State.queueOk_append {s t : State} {m : Move} (h : s.queueOk) (ht : t.mc.queue = s.mc.queue ++ [m]) (hL : 1 ≤ m.lead)
    (hd : m.dist.natAbs ≤ m.lead) (htag : ∀ x ∈ s.mc.queue, x.tag ≠ m.tag) (hl : s.mc.queue.length < 16) : t.queueOk := by
  obtain ⟨-, hn, hm⟩ := h
  unfold State.queueOk
  rw [ht]
  refine ⟨by simpa using hl, ?_, ?_⟩
  · rw [List.map_append, List.map_singleton, List.nodup_append]
    refine ⟨hn, by simp, ?_⟩
    intro a ha b hb hab
    obtain ⟨x, hx, rfl⟩ := List.mem_map.mp ha
    exact htag x hx (hab.trans (List.mem_singleton.mp hb))
  · simp only [List.mem_append, List.mem_singleton]
    rintro x (hx | rfl)
    · exact hm x hx
    · exact ⟨hL, hd⟩

/-- The group of a new move is in the group table (R6). -/
theorem State.membersOk_append {s t : State} {m : Move} (h : s.membersOk) (ht : t.mc.queue = s.mc.queue ++ [m])
    (hg : ∀ g, m.group = some g → ∃ e ∈ s.roll.groups, e.number = g) (hstore : t.store = s.store) (hroll : t.roll = s.roll)
    (hself : t.link = s.link) : t.membersOk := by
  obtain ⟨hr, he, hq⟩ := h
  unfold State.membersOk State.self
  rw [ht, hstore, hroll, hself]
  refine ⟨hr, he, ?_⟩
  simp only [List.mem_append, List.mem_singleton]
  rintro x (hx | rfl)
  · exact hq x hx
  · exact hg

/-- A configured node with an empty queue is IDLE or HELD (R10, R22). -/
theorem State.idle_or_held_of_empty {s : State} (h : s.causesOk) (hu : s.mc.state ≠ .unconfigured) (hq : s.mc.queue = []) :
    s.mc.state = .idle ∨ s.mc.state = .held := by
  have hc := h.1
  cases hs : s.mc.state <;> simp_all

/-- A node that is not UNCONFIGURED takes a move at the tail of its queue (R5, R6). -/
theorem State.append_mid {s : State} {m : Move} (h : s.mid) (hu : s.mc.state ≠ .unconfigured) (hL : 1 ≤ m.lead)
    (hd : m.dist.natAbs ≤ m.lead) (hg : ∀ g, m.group = some g → ∃ e ∈ s.roll.groups, e.number = g)
    (ht : ∀ x ∈ s.mc.queue, x.tag ≠ m.tag) (hl : s.mc.queue.length < 16)
    (hgates : ((s.unstarted ++ [m]).flatMap (·.gates)).dedup.length ≤ 8) : (s.append m).mid := by
  have hmarks := h.marks.append_move hgates
  rw [State.append_eq]
  by_cases hq : s.mc.queue = []
  · have hs := State.idle_or_held_of_empty h.causes hu hq
    have hb := (NodeState.of_idle_or_held hs).2
    have hkept := s.kept_of_not_announcing h.causes (NodeState.ne_announcing_of_not_busy hb)
    have hc := h.causes.1
    rw [State.unstarted_of_not_moving (NodeState.not_moving_of_not_busy hb)] at hmarks
    refine State.mid_of_not_busy (State.base_of_not_busy ?_ (State.queueOk_append h.queue rfl hL hd ht hl) hmarks h.notices
      ⟨?_, h.causes.2.1, fun hk => absurd hkept hk, h.causes.2.2.2⟩ ?_
      (State.membersOk_append h.members rfl hg rfl rfl rfl) h.flight) ?_ (h.lead_stopped hb) (h.no_readies hb)
    all_goals rcases hs with hs | hs <;> simp only [hq, hs] at hc ⊢
    · rfl
    · rfl
    · exact ⟨by simp, hc.2⟩
    · exact hc
    · exact iff_of_true (h.committed.mpr hu) nofun
    · exact iff_of_true (h.committed.mpr hu) nofun
    · rfl
    · rfl
  · have hhead : (s.mc.queue ++ [m]).head? = s.mc.queue.head? := List.head?_append_of_ne_nil _ hq
    simp only [hq, false_and, if_false, ne_eq, not_false_eq_true, if_true]
    refine ⟨⟨State.queueOk_append h.queue rfl hL hd ht hl, ?_, h.notices,
      State.causesOk_of_queue (s.mc.queue ++ [m]) h.causes (by simp [hq]), h.room, fun ha => ?_, h.due, h.committed,
      State.membersOk_append h.members rfl hg rfl rfl rfl, h.flight⟩, ⟨h.lead.1, h.lead.2.1, h.lead.2.2.1, fun hm => ?_⟩,
      h.readies.1, fun hs => ?_⟩
    · have hun : (if s.mc.state.moving then (s.mc.queue ++ [m]).tail else s.mc.queue ++ [m]) = s.unstarted ++ [m] := by
        rw [List.tail_append_of_ne_nil hq]
        exact (apply_ite (· ++ [m]) ..).symm
      show marksFit (if s.mc.state.moving then _ else _) _
      rw [hun]
      exact hmarks
    · rw [hhead]
      exact h.grouped ha
    · obtain ⟨x, rest, ks, hx, hf⟩ := h.lead.2.2.2 hm
      exact ⟨x, rest ++ [m], ks, by rw [hx, List.cons_append], hf⟩
    · rw [hhead]
      exact h.readies.2 hs

theorem State.loadAct_mid {s : State} (h : s.mid) (src : Addr) (f : LoadFields) : (s.loadAct src f).1.mid := by
  rw [State.loadAct_eq]
  split
  · exact h
  · rename_i hok
    split at hok
    · cases hok
    · rename_i hu
      obtain ⟨hbad, hd, hg, ht, hl, hgates⟩ := State.loadChecks_none hok
      exact State.append_mid h hu (lead_pos_of_fields hbad) hd hg ht hl hgates

theorem State.loadAct_fq (s : State) (src : Addr) (f : LoadFields) : (s.loadAct src f).1.fq = s.fq := by
  rw [State.loadAct_eq]
  split
  · rfl
  · rw [State.append_eq]

theorem State.flushQueue_mid {s : State} (h : s.mid) (hs : s.mc.state = .idle ∨ s.mc.state = .pending ∨ s.mc.state = .held) :
    s.flushQueue.mid := by
  have hb : s.mc.state.busy = false := by rcases hs with hs | hs | hs <;> rw [hs] <;> rfl
  have hkept := s.kept_of_not_announcing h.causes (NodeState.ne_announcing_of_not_busy hb)
  have hc := h.causes.1
  have hcom : s.store.committed = true := h.committed.mpr (by rcases hs with hs | hs | hs <;> simp [hs])
  refine State.mid_of_not_busy (State.base_of_not_busy ?_ ⟨Nat.zero_le _, List.nodup_nil, nofun⟩
    ⟨Nat.zero_le _, List.nodup_nil, nofun, Nat.zero_le _⟩ h.notices
    ⟨?_, h.causes.2.1, fun hk => absurd hkept hk, h.causes.2.2.2⟩ (iff_of_true hcom ?_)
    ⟨h.members.1, h.members.2.1, nofun⟩ h.flight) ?_ (h.lead_stopped hb) (h.no_readies hb)
  all_goals rcases hs with hs | hs | hs <;> simp_all [State.flushQueue, NodeState.busy, NodeState.announced, NodeState.moving]

theorem State.flushAct_mid {s : State} (h : s.mid) : s.flushAct.1.mid := by
  unfold State.flushAct
  split
  case h_2 hs => exact State.flushQueue_mid h (.inl hs)
  case h_3 hs => exact State.flushQueue_mid h (.inr (.inl hs))
  case h_4 hs => exact State.flushQueue_mid h (.inr (.inr hs))
  all_goals exact h

theorem State.flushAct_fq (s : State) : s.flushAct.1.fq = s.fq := by
  unfold State.flushAct
  split <;> rfl

/-! ## STOP and RESUME -/

theorem State.stopAnnounced_mid {s : State} (h : s.mid) (hc : s.fq.calm) (ha : s.mc.state.announced = true) :
    s.stopAnnounced.mid := by
  unfold State.stopAnnounced
  split
  · exact State.notify_mid (State.giveUp_mid h.tobase h.lead ha hc _ _ _) _ _ _ rfl
  · exact h

/-- A STOP by the node state (R103, R104). -/
theorem State.stopEffect_mid {s : State} (h : s.mid) (hc : s.fq.calm) (k : HaltKind) : (s.stopEffect k).mid := by
  unfold State.stopEffect
  split
  case h_1 => exact h
  case h_2 hs | h_3 hs => exact State.hold_mid h (by simp [hs]) (by rw [hs]; rfl) _
  case h_4 hs | h_5 hs => exact State.stopAnnounced_mid h hc (by rw [hs]; rfl)
  case h_6 hs =>
    have hm : s.mc.state.moving = true := by rw [hs]; rfl
    split
    · exact State.rampMove_mid h hm rfl
    · exact State.stopMove_mid h hm _ rfl
  case h_7 hs =>
    have hm : s.mc.state.moving = true := by rw [hs]; rfl
    split
    · exact State.addCause_mid h (.inr hm) _
    · exact State.stopMove_mid h hm _ rfl
  case h_8 => exact h

theorem State.stopEffect_keepsFlight (k : HaltKind) (s : State) : s.fq.KeepsFlight (s.stopEffect k).fq := by
  have hann : s.fq.KeepsFlight s.stopAnnounced.fq := by
    unfold State.stopAnnounced
    split
    · exact (s.giveUp_keepsFlight _ _ _).trans (State.notify_keepsRoom _ _ _ _ _).toKeepsFlight
    · exact .refl _
  unfold State.stopEffect
  split
  case h_2 | h_3 => exact (s.hold_frame .stationStop).2.1 ▸ .refl _
  case h_4 | h_5 => exact hann
  case h_6 =>
    split
    · exact (s.rampMove_keepsReadies _).toKeepsFlight
    · exact (s.stopMove_keepsReadies _ _).toKeepsFlight
  case h_7 =>
    split
    · exact .refl _
    · exact (s.stopMove_keepsReadies _ _).toKeepsFlight
  all_goals exact .refl _

theorem State.stopAct_mid {s : State} (h : s.mid) (hc : s.fq.calm) (k : Nat) : (s.stopAct k).1.mid := by
  unfold State.stopAct
  split
  · exact h
  · split
    · exact h
    · exact State.stopEffect_mid h hc _

theorem State.stopAct_reserved (k : Nat) (s : State) : (s.stopAct k).1.fq.reserved = s.fq.reserved := by
  unfold State.stopAct
  split
  · rfl
  · split
    · rfl
    · exact (s.stopEffect_keepsFlight _).reserved

/-- A HELD node takes up its queue again (R105). -/
theorem State.resumed_mid {s : State} (h : s.mid) (hs : s.mc.state = .held) : s.resumed.mid := by
  have hb : s.mc.state.busy = false := by rw [hs]; rfl
  have hkept := s.kept_of_not_announcing h.causes (by simp [hs])
  have hb' : s.resumed.mc.state.busy = false := busy_stateAfter 0 false s.mc.queue
  refine State.mid_of_not_busy (State.base_of_not_busy hb' h.queue ?_ h.notices
    (State.causesOk_of_stateAfter rfl nofun hkept) ?_ h.members h.flight) hb' (h.lead_stopped hb) (h.no_readies hb)
  · exact State.unstarted_of_not_moving (NodeState.not_moving_of_not_busy hb) ▸ h.marks
  · exact iff_of_true (h.committed.mpr (by simp [hs])) (stateAfter_ne_unconfigured 0 false s.mc.queue)

theorem State.resumeAct_mid {s : State} (h : s.mid) : s.resumeAct.1.mid := by
  unfold State.resumeAct
  split
  · exact h
  · rename_i hs
    split
    · exact h
    · exact State.resumed_mid h (by simpa using hs)

theorem State.resumeAct_fq (s : State) : s.resumeAct.1.fq = s.fq := by
  unfold State.resumeAct
  split
  · rfl
  · split <;> rfl

/-! ## SETPOS, SCALE and QUERY -/

theorem State.setposAct_mid {s : State} (h : s.mid) (v : Signed32) : (s.setposAct v).1.mid := by
  unfold State.setposAct
  split
  · exact ⟨h.tobase.congr { flight := h.flight }, h.lead, h.readies⟩
  · exact h

theorem State.setposAct_fq (v : Signed32) (s : State) : (s.setposAct v).1.fq = s.fq := by
  unfold State.setposAct
  split <;> rfl

theorem State.scaleAct_mid {s : State} (h : s.mid) (p : Nat) : (s.scaleAct p).1.mid := by
  have hs : (s.updLead fun l => { l with soloScale := p }).mid := ⟨h.tobase.congr { flight := h.flight }, h.lead, h.readies⟩
  unfold State.scaleAct
  split
  · exact h
  · split
    · exact h
    · dsimp only
      split
      · exact State.recap_mid hs
      · exact hs

theorem State.scaleAct_fq (p : Nat) (s : State) : (s.scaleAct p).1.fq = s.fq := by
  unfold State.scaleAct
  split
  · rfl
  · split
    · rfl
    · dsimp only
      split <;> simp

theorem State.queryGroupAct_fst (g i : Nat) (s : State) : (s.queryGroupAct g i).1 = s := by
  unfold State.queryGroupAct
  split
  · rfl
  · split <;> rfl

theorem State.queryQueueAct_fst (i : Nat) (s : State) : (s.queryQueueAct i).1 = s := by
  unfold State.queryQueueAct
  split <;> rfl

end Sys2Proof.Machine
end

section
/-! SUPPORT. The events of the node's own keep the invariant: the lead step, the timers, the inputs and the idle bus (R36, R57,
R68 to R75, R79, R97, R99, R110, R118, R136, R144). -/

-- One proof after another: elaborated side by side they need more threads than the check allows.
set_option deprecated.oldSectionVars true

namespace Sys2Proof.Machine

theorem State.slotPassed_mid {s : State} (h : s.mid) (b : Bool) : (s.slotPassed b).mid := by
  have hl : (s.updLink fun l => { l with idleCount := 0, inFrame := true }).mid := State.updLink_mid h rfl
  unfold State.slotPassed
  split
  · dsimp only
    split
    · rename_i hr
      exact State.reserve_mid hl hr.2
    · exact hl
  · exact h

/-! ## The lead step -/

/-- The climb counter after a step that could be made is within the ramp and what then is left of the lead (R68). -/
theorem stepClimb_le {A left c : Nat} {k : StepKind} (h : stepFits A left c k) (hA : c ≤ A) (hl : c ≤ left) :
    stepClimb c k ≤ A ∧ stepClimb c k ≤ left - 1 := by
  cases k <;> simp only [stepFits, stepClimb] at h ⊢ <;> omega

/-- The pulse accumulator and the pulses made after a step (R75). -/
theorem pulses_stepped {L acc p n : Nat} {d : Int} (hd : d.natAbs ≤ L) (hacc : acc < L) (hn : n * L + acc = p * d.natAbs) :
    accAfter L acc d < L ∧
    (if makesPulse L acc d then n + 1 else n) * L + accAfter L acc d = (p + 1) * d.natAbs := by
  have hp : (p + 1) * d.natAbs = p * d.natAbs + d.natAbs := by ring
  have hn' : (n + 1) * L = n * L + L := by ring
  unfold accAfter makesPulse
  split
  · rename_i hit
    simp only [decide_eq_true_eq] at hit
    omega
  · rename_i hit
    simp only [decide_eq_true_eq] at hit
    omega

/-- A step that does not end the lead leaves it within its bounds, the next step decided (R68, R70, R75). -/
theorem leadFits_next {x : Slot} {m : Move} {l : Lead} {st : PendingStep} (h : leadFits x m l) (hs : l.step = some st)
    (hd : m.dist.natAbs ≤ m.lead) (hp : (l.stepped m st.kind).p ≠ m.lead) (ph : Phase) (cap : Nat) :
    leadFits x m { l.stepped m st.kind with
      step := some (decideStep x ph m.lead (l.stepped m st.kind).p (l.stepped m st.kind).c cap) } := by
  obtain ⟨hpl, hcA, hcl, ⟨st', hst', hfit⟩, hacc, hpul⟩ := h
  obtain rfl : st' = st := Option.some.inj (hst'.symm.trans hs)
  have hp : l.p + 1 ≠ m.lead := hp
  obtain ⟨hA, hl⟩ := stepClimb_le hfit hcA hcl
  obtain ⟨ha, hn⟩ := pulses_stepped hd hacc hpul
  refine ⟨?_, hA, ?_, ⟨_, rfl, decideStep_fits ..⟩, ha, hn⟩
  · show l.p + 1 < m.lead
    omega
  · show stepClimb l.c st'.kind ≤ m.lead - (l.p + 1)
    omega

/-- The pulse of a step is made on an output line (R76). -/
theorem State.stepLine_frame (m : Move) (s : State) :
    (s.stepLine m).mc = s.mc ∧ (s.stepLine m).gate = s.gate ∧ (s.stepLine m).store = s.store ∧ (s.stepLine m).roll = s.roll ∧
    (s.stepLine m).link = s.link ∧ (s.stepLine m).fq = s.fq ∧ (s.stepLine m).lead = s.lead := by
  unfold State.stepLine
  split <;> simp

/-- `t` is the state `s` with the lead step `st` of its move `m` made and the markers of the new lead position reached (points
1 to 3 of R70). -/
structure State.Stepped (s t : State) (m : Move) (st : PendingStep) : Prop where
  base    : t.base
  state   : t.mc.state = s.mc.state
  queue   : t.mc.queue = s.mc.queue
  store   : t.store = s.store
  lead    : t.lead = s.lead.stepped m st.kind
  held    : ∃ ks, t.gate.held = some { tag := m.tag, unreached := ks }
  readies : t.fq.readies = []

/-- The end of the move, the end of a descent, or the next step of a move in hand (R70, R74). -/
theorem State.afterStep_mid {s t : State} {m : Move} {rest : List Move} {st : PendingStep} (h : s.mid)
    (hm : s.mc.state.moving = true) (hq : s.mc.queue = m :: rest) (hs : s.lead.step = some st) (ht : s.Stepped t m st) :
    (t.afterStep m).mid := by
  obtain ⟨hbase, hst, hqt, hstore, hl, ⟨ks, hh⟩, hr⟩ := ht
  have hq' : t.mc.queue = m :: rest := hqt.trans hq
  have hend (o : RetireOutcome) (c : Option Cause) : (t.stopLead.retire o c).mid :=
    State.retire_mid (State.stopLead_base hbase) hq' t.stopLead_stopped hr o c
  unfold State.afterStep
  split
  · unfold State.leadEnds
    split
    · exact hend _ _
    · exact hend _ _
  · rename_i hp
    split
    · exact hend _ _
    · obtain ⟨m', rest', ks', hq2, hf, -⟩ := h.in_hand hm
      obtain rfl : m' = m := by simp_all
      have hmt : t.mc.state.moving = true := by rw [hst]; exact hm
      have hna := NodeState.ne_announcing_of_moving hmt
      have hL := (h.queue.2.2 m' (by simp [hq])).2
      have hprof : t.profileOf m' = s.profileOf m' := by simp [State.profileOf, hstore]
      rw [hl] at hp
      refine State.mid_of_moving hmt hbase.queue (t.marksFit_tail hbase hmt) hbase.notices hbase.causes.2.1
        (t.kept_of_not_announcing hbase.causes hna) (hbase.room (.inr hmt))
        (hbase.committed_of_queue (by simp [hq'])) hbase.members hbase.flight ⟨?_, ?_, fun hb => ?_, fun _ => ⟨m', rest, ks, hq', ?_, hh⟩⟩ hr
      · show t.lead.phase = .run ↔ t.mc.state = .running
        rw [hl, hst]
        exact h.lead.1
      · show t.lead.phase = .descent ↔ t.mc.state = .stopping
        rw [hl, hst]
        exact h.lead.2.1
      · have hb : t.mc.state.moving = false := hb
        simp [hmt] at hb
      · have hnext := leadFits_next hf hs hL hp t.lead.phase (t.lead.cap.getD 0)
        rw [← hprof, ← hl] at hnext
        exact hnext

theorem State.leadStep_mid {s : State} (h : s.mid) : s.leadStep.mid := by
  unfold State.leadStep
  split
  · rename_i st m hs hm
    have hmv : s.mc.state.moving = true := by
      by_contra hmv
      simp [h.lead.2.2.1 (by simpa using hmv)] at hs
    obtain ⟨rest, hq⟩ := List.head?_eq_some_iff.mp hm
    obtain ⟨m', rest', ks, hq', -, hh⟩ := h.in_hand hmv
    obtain rfl : m' = m := by simp_all
    obtain ⟨hmc, hgate, hstore, hroll, hlink, hfq, hlead⟩ := s.stepLine_frame m'
    have hna := NodeState.ne_announcing_of_moving hmv
    have hb : ((s.stepLine m').updLead fun l => l.stepped m' st.kind).base :=
      h.tobase.congr ⟨hmc, hgate, hstore, by simp [hroll], by simp [hlink], by simp [hfq], by simpa [hfq] using h.flight⟩
    have hnb : ((s.stepLine m').updLead fun l => l.stepped m' st.kind).mc.state ≠ .announcing := by simpa [hmc] using hna
    dsimp only
    refine State.finish_mid (State.afterStep_mid h hmv hq hs ⟨State.reach_base hb hnb _, by simp [hmc], by simp [hmc],
      by simp [hstore], by simp [hlead], State.reach_held (hgate ▸ hh) _, State.reach_readies _ ?_⟩)
    simpa [hfq] using h.no_readies_of_moving hmv
  · exact h

/-! ## The timers -/

theorem State.rollExpires_mid {s : State} (h : s.mid) : s.rollExpires.mid := by
  unfold State.rollExpires
  split
  · exact h
  · have hr : (s.updRoll fun r => { r with timer := none }).mid := h.congr { flight := h.flight }
    dsimp only
    split
    · exact State.finish_mid (State.failAnnounced_mid hr ‹_› (by simp [failureCauses]))
    · exact hr

/-- The gate wait timer runs only while the node is not busy with a head (R15, R56). -/
theorem State.gateExpires_mid {s : State} (h : s.mid) : s.gateExpires.mid := by
  unfold State.gateExpires
  split
  · exact h
  · rename_i n hn
    have hb : s.mc.state.busy = false := by
      by_contra hb
      simp [(h.room (NodeState.busy_iff.mp (by simpa using hb))).2.2] at hn
    have hg : (s.updGate fun g => { g with timer := none }).mid :=
      ⟨⟨h.queue, h.marks, h.notices, h.causes, fun hb => ⟨(h.room hb).1, (h.room hb).2.1, rfl⟩, h.grouped, h.due, h.committed,
        h.members, h.flight⟩, h.lead, h.readies⟩
    dsimp only
    split
    · exact ⟨⟨hg.queue, hg.marks, hg.notices, hg.causes, hg.room, hg.grouped, hg.due, hg.committed, hg.members, hg.flight⟩,
        hg.lead, hg.readies⟩
    · exact State.finish_mid (State.retire_mid_of_not_busy hg hb _ _)

theorem State.silenceExpires_mid {s : State} (h : s.mid) (p : Addr) : (s.silenceExpires p).mid := by
  unfold State.silenceExpires
  split
  · exact h
  · split
    · exact h
    · exact State.finish_mid (State.setPresence_mid (State.updPeerEntry_mid h _ _) _ _)

theorem State.beaconExpires_mid {s : State} (h : s.mid) : s.beaconExpires.mid := by
  have hq : s.restartBeacon.queueBeacon.mid := by
    have hr := State.restartBeacon_mid h
    unfold State.queueBeacon
    split
    · have hk := s.fq.keepsRoom_push (.beacon s.mc.state s.mc.queue.length) rfl (by simp [OutFrame.cls])
      exact State.updFq_mid hr hk.free.ge hk.readies (hk.flight ▸ h.flight)
    · exact hr
  unfold State.beaconExpires
  split
  · exact h
  · exact State.offer_mid hq

theorem State.listenExpires_mid {s : State} (h : s.mid) : s.listenExpires.mid := by
  unfold State.listenExpires
  split
  · exact h
  · exact State.finish_mid (State.releaseDeferred_mid (State.updLink_mid h rfl))

/-! ## The bus -/

theorem State.idle_mid {s : State} (h : s.mid) : s.idle.mid := by
  have hl : (s.updLink fun l => { l with idleCount := Config.idleBits }).mid := State.updLink_mid h rfl
  unfold State.idle
  split
  · exact h
  · refine State.offer_mid ?_
    unfold State.leaveOffline
    split
    · exact State.restartBeacon_mid (State.updLink_mid hl rfl)
    · exact hl

theorem State.dominantBit_mid {s : State} (h : s.mid) : s.dominantBit.mid := by
  unfold State.dominantBit
  split
  · exact h
  · split <;> exact State.updLink_mid h rfl

/-! ## The inputs -/

theorem State.register_mid {s : State} (h : s.mid) (i : InputName) (l : Level) : (s.register i l).mid :=
  h.congr { flight := by simpa using h.flight }

theorem State.assertion_mid {s : State} (h : s.mid) (i : InputName) {deliver : State → State}
    (hd : ∀ u : State, u.mid → (deliver u).mid) : (s.assertion i deliver).mid := by
  unfold State.assertion
  split
  · exact h
  · split
    · exact State.register_mid h _ _
    · exact hd _ (State.register_mid h _ _)

theorem State.limitDelivered_mid {s : State} (h : s.mid) (side : LimitSide) : (s.limitDelivered side).mid := by
  unfold State.limitDelivered
  split
  · split
    · split
      · exact State.finish_mid (State.failAnnounced_mid h ‹_› (by simp [failureCauses]))
      · split
        · exact State.finish_mid (State.stopMove_mid h ‹_› _ rfl)
        · exact h
    · exact h
  · exact h

/-- DALM and STOPIN give a cause of R41 (R97, R100). -/
theorem State.localStop_mid {s : State} (h : s.mid) {c : Cause} (hc : c ∈ failureCauses) : (s.localStop c).mid := by
  unfold State.localStop
  split
  case h_1 => exact h
  case h_2 hs | h_3 hs => exact State.hold_mid h (by simp [hs]) (by rw [hs]; rfl) c
  case h_4 hs | h_5 hs => exact State.failAnnounced_mid h (by rw [hs]; rfl) hc
  case h_6 hs | h_7 hs => exact State.stopMove_mid h (by rw [hs]; rfl) _ (causeInNotice_of_failureCause hc)
  case h_8 hs => exact State.addCause_mid h (.inl hs) c

theorem State.driveStop_mid {s : State} (h : s.mid) {c : Cause} (hc : c ∈ failureCauses) : (s.driveStop c).mid := by
  unfold State.driveStop
  split
  · exact h
  · have ho : (s.updOut fun o => { o with dren := false }).mid := h.congr { flight := h.flight }
    exact State.finish_mid (State.localStop_mid ho hc)

theorem State.homeDelivered_mid {s : State} (h : s.mid) : s.homeDelivered.mid := by
  unfold State.homeDelivered
  split
  · split
    · rename_i hk
      exact State.finish_mid (State.completeSeek_mid h hk.2)
    · exact h
  · exact h

theorem State.ownRejected_mid {s : State} (h : s.mid) (m : SlotMarks) : (s.ownRejected m).mid := by
  unfold State.ownRejected
  split
  · exact h
  · exact State.slotRejects_mid h _ _

theorem State.ownBusy_mid {s : State} (h : s.mid) : s.ownBusy.mid := by
  unfold State.ownBusy
  split
  · exact h
  · exact State.finish_mid (State.attemptBusy_mid (State.unreserved_mid (State.afterSlot_mid h _)))

end Sys2Proof.Machine
end

section
/-! Every command keeps the invariant, and with it the move queue, the mark list and the notice list, the lead, the hold causes,
the REPLY room and the READY (R1, R7, R10, R11, R22, R23, R32, R41, R42, R46, R51, R65, R68, R75, R93, R107). -/

-- One proof after another: elaborated side by side they need more threads than the check allows.
set_option deprecated.oldSectionVars true

namespace Sys2Proof.Machine

/-- A request whose action leaves the Frame Queue alone. -/
theorem State.request_mid_of_fq {s : State} (h : s.mid) (src num : Nat) (k : RequestKind) {act : State → State × Reply}
    {after : State → State} (hafter : ∀ u : State, u.mid → (after u).mid) (ha : ∀ u : State, u.mid → (act u).1.mid)
    (hfq : ∀ u : State, (act u).1.fq = u.fq) : (s.request src num k act after).mid :=
  State.request_mid h src num k hafter fun u hu _ hr => ⟨ha u hu, .inl (by rw [hfq, hr])⟩

/-- A CONFIG request of any record (R123). -/
theorem State.config_mid {s : State} (h : s.mid) (src num : Nat) (checks : State → List (Bool × NakReason))
    (store : Store → Store) (hc : ∀ c, (store c).committed = c.committed)
    (hg : ∀ u : State, u.mid → firstFailing (checks u) = none →
      ∀ r ∈ (store u.store).groups, u.self ∈ r.members ∧ u.self ≤ 30) :
    (s.request src num .config (fun s => s.configure (checks s) store) State.offer).mid :=
  State.request_mid_of_fq h src num .config (fun _ => State.offer_mid)
    (fun u hu => State.configure_mid hu _ store (hc _) (hg u hu)) fun u => u.configure_fq _ _

/-- A CONFIG request of a record other than GROUP. -/
theorem State.config_mid_of_groups {s : State} (h : s.mid) (src num : Nat) (checks : State → List (Bool × NakReason))
    (store : Store → Store) (hc : ∀ c, (store c).committed = c.committed) (hg : ∀ c, (store c).groups = c.groups) :
    (s.request src num .config (fun s => s.configure (checks s) store) State.offer).mid :=
  State.config_mid h src num checks store hc fun u hu _ => by
    rw [hg]
    exact hu.members.1

theorem putRamp_keeps (slot kind rs rc a : Nat) (c : Store) :
    (putRamp slot kind rs rc a c).committed = c.committed ∧ (putRamp slot kind rs rc a c).groups = c.groups := by
  unfold putRamp
  split <;> exact ⟨rfl, rfl⟩

theorem doConfigGroup_mid {s : State} (h : s.mid) (src num g : Nat) (ms : List Nat) : (doConfigGroup src num g ms s).mid := by
  refine State.config_mid h src num (fun s => s.groupChecks g ms)
    (fun c => { c with groups := putGroup { number := g, members := ms } c.groups }) (fun _ => rfl) fun u hu hok r hr => ?_
  rcases mem_putGroup hr with rfl | hr
  · exact State.groupChecks_member hok
  · exact hu.members.1 r hr

theorem doCommit_mid {s : State} (h : s.mid) (src num : Nat) : (doCommit src num s).mid := by
  refine State.request_mid h src num .commit (fun _ => State.offer_mid) fun u hu _ hr => ?_
  split
  · exact ⟨hu, .inl hr⟩
  · rename_i hok
    have hs : u.mc.state = .unconfigured := by
      simpa using (firstFailing_eq_none_iff.mp hok) (decide (u.mc.state ≠ .unconfigured), .badState)
        (by simp [State.commitChecks])
    exact (State.commitEffect_mid hu hs).imp_right .inr

theorem doRestart_mid {s : State} (h : s.mid) (src num : Nat) : (doRestart src num s).mid := by
  refine State.request_mid h src num .restart (fun _ => State.offer_mid) fun u hu _ hr => ?_
  split
  · exact ⟨u.restarted_mid, .inr rfl⟩
  · exact ⟨hu, .inl hr⟩

/-- Every command but those that are told with a frame's bits keeps the invariant. -/
theorem exec_mid_of_not_bits {c : Sys2Proof.Instr} {s t : State} (hb : readsBits c = false) (h : s.mid)
    (he : exec c s = .next t) : t.mid := by
  cases c <;> cases he
  case configGroup => exact doConfigGroup_mid h _ _ _ _
  case configProfile =>
    exact State.config_mid_of_groups h _ _ (fun _ => _) _ (fun c => (putRamp_keeps ..).1) fun c => (putRamp_keeps ..).2
  case configProfileTablePart =>
    exact State.config_mid_of_groups h _ _ (fun _ => _) _ (fun _ => rfl) fun _ => rfl
  case configLimits | configTiming | configInputs =>
    exact State.config_mid_of_groups h _ _ (fun _ => _) _ (fun _ => rfl) fun _ => rfl
  case commit => exact doCommit_mid h _ _
  case restart => exact doRestart_mid h _ _
  case load =>
    exact State.request_mid_of_fq h _ _ _ (fun _ => State.finish_mid) (fun _ hu => State.loadAct_mid hu _ _)
      fun u => u.loadAct_fq _ _
  case flush =>
    exact State.request_mid_of_fq h _ _ _ (fun _ => State.offer_mid) (fun _ hu => State.flushAct_mid hu) State.flushAct_fq
  case stop =>
    exact State.request_mid h _ _ _ (fun _ => State.finish_mid) fun u hu hf hr =>
      ⟨State.stopAct_mid hu (FrameQueue.calm_of_inFlight hf) _, .inl ((u.stopAct_reserved _).trans hr)⟩
  case resume =>
    exact State.request_mid_of_fq h _ _ _ (fun _ => State.finish_mid) (fun _ hu => State.resumeAct_mid hu) State.resumeAct_fq
  case setpos =>
    exact State.request_mid_of_fq h _ _ _ (fun _ => State.offer_mid) (fun _ hu => State.setposAct_mid hu _)
      (State.setposAct_fq _)
  case scale =>
    exact State.request_mid_of_fq h _ _ _ (fun _ => State.offer_mid) (fun _ hu => State.scaleAct_mid hu _) (State.scaleAct_fq _)
  case queryNode => exact State.request_mid_of_fq h _ _ _ (fun _ => State.offer_mid) (fun _ hu => hu) fun _ => rfl
  case queryGroup =>
    exact State.request_mid_of_fq h _ _ _ (fun _ => State.offer_mid) (fun u hu => (u.queryGroupAct_fst _ _).symm ▸ hu)
      fun u => by rw [u.queryGroupAct_fst]
  case queryQueue =>
    exact State.request_mid_of_fq h _ _ _ (fun _ => State.offer_mid) (fun u hu => (u.queryQueueAct_fst _).symm ▸ hu)
      fun u => by rw [u.queryQueueAct_fst]
  case readyTaken => exact State.takeHeard_mid h _ _ _ fun _ hu hc hsrc => State.readyTake_mid hu hc hsrc _ _
  case withdrawTaken => exact State.takeHeard_mid h _ _ _ fun _ hu hc _ => State.withdrawTake_mid hu hc _ _ _
  case haltTaken => exact State.takeHeard_mid h _ _ _ fun _ hu hc _ => State.haltTake_mid hu hc _ _ _
  case markTaken => exact State.takeHeard_mid h _ _ _ fun _ hu _ _ => State.markTake_mid hu _ _ _ _
  case beaconTaken => exact State.takeFrom_mid h _ _ fun _ hu _ _ _ => State.finish_mid (State.hear_mid hu _ _)
  case groupScaleTaken =>
    exact State.takeFrom_mid h _ _ fun _ hu _ _ _ => State.offer_mid (State.groupScaleTake_mid (State.hear_mid hu _ _) _ _)
  case replyFrameTaken => exact State.takeFrom_mid h _ _ fun _ hu _ _ _ => State.offer_mid (State.hear_mid hu _ _)
  case malformedFrameTaken | frameRejectedInSlot => cases hb
  case ownFrameTaken => exact State.ownTaken_mid h
  case lostInArbitration => exact State.attemptLost_mid h
  case rejected | discarded => exact State.ownRejected_mid h _
  case refusedAsBusy | dropped => exact State.ownBusy_mid h
  case busIdle => exact State.idle_mid h
  case leadStep => exact State.leadStep_mid (State.slotPassed_mid h _)
  case rollTimeout => exact State.rollExpires_mid (State.slotPassed_mid h _)
  case gateWaitTimerExpires => exact State.gateExpires_mid (State.slotPassed_mid h _)
  case silenceTimerExpires => exact State.silenceExpires_mid (State.slotPassed_mid h _) _
  case beaconTimerExpires => exact State.beaconExpires_mid h
  case listenTimerExpires => exact State.listenExpires_mid h
  case limitAsserted =>
    exact State.assertion_mid (State.slotPassed_mid h _) _ fun _ hu => State.limitDelivered_mid hu _
  case dalmAsserted | stopinAsserted =>
    exact State.assertion_mid (State.slotPassed_mid h _) _ fun _ hu => State.driveStop_mid hu (by simp [failureCauses])
  case homeAsserted => exact State.assertion_mid (State.slotPassed_mid h _) _ fun _ hu => State.homeDelivered_mid hu
  case inputChangeInactive =>
    unfold State.inactive
    split
    · exact h
    · exact State.register_mid h _ _
  case resetAsserted => exact s.underReset_mid
  case powerOn => exact State.powerOn_mid _ _ _ _
  case lineLevelChange =>
    unfold State.lineChange
    split
    · exact h
    · exact h.congr { flight := h.flight }
  case dominantBitOutsideFrame => exact State.dominantBit_mid h

/-! ## A frame read from the bus -/

/-- A malformed frame of another party is answered only where its slot found room (R141, R149). -/
theorem State.malformed_mid {s : State} (h : s.mid) (r : Sys2Proof.RawFrame)
    (hr : RawFrame.asksReply r s.self = true → s.hasRoom = true) : (s.malformed r).mid := by
  have hh := State.hear_mid h r.source.toNat .alive
  unfold State.malformed
  dsimp only
  split
  · rename_i ha
    have hroom : s.hasRoom = true := hr (Bool.and_eq_true_iff.mp ha).1
    exact State.fill_mid (State.reserve_mid hh hroom) rfl (.inl rfl)
  · exact hh

theorem State.attemptLost_of_flight {s : State} (h : s.fq.inFlight = []) : s.attemptLost = s :=
  State.attemptLost_of_not_sending ((s.fq.sending_eq_none_iff).mpr h)

/-- A frame that is not marked by this node goes the way of what it reads as (R142, R149, R166). -/
theorem State.takeReading_mid {s : State} (h : s.mid) (r : Sys2Proof.RawFrame)
    (hr : RawFrame.asksReply r s.self = true → s.hasRoom = true) (hf : r.source.toNat ≠ s.self → s.fq.inFlight = []) :
    (s.takeReading r).mid := by
  rcases s.takeReading_cases r with he | he | ⟨src, num, he⟩ | ⟨src, num, he⟩ | ⟨i, hi, he⟩
  · rwa [he]
  · rw [he]
    unfold State.takeHeld
    split
    · exact State.afterSlot_mid h _
    · split
      · split
        · exact State.ownTaken_mid h
        · exact State.clash_mid h
      · rename_i hsrc
        rw [State.attemptLost_of_flight (hf hsrc)]
        exact State.released_mid (State.malformed_mid (State.afterSlot_mid h _) r hr)
  · rw [he]
    exact State.config_mid_of_groups h _ _ (fun _ => _) _ (fun _ => rfl) fun _ => rfl
  · rw [he]
    exact State.request_mid_of_fq h _ _ _ (fun _ => State.offer_mid) (fun _ hu => hu) fun _ => rfl
  · exact exec_mid_of_not_bits hi h he

/-- A node that does not mark a frame has room for the reply that the frame asks of it (R141). -/
theorem State.hasRoom_of_slotMark {s : State} {r : Sys2Proof.RawFrame} (h : s.slotMark r = SlotMarks.none)
    (ha : RawFrame.asksReply r s.self = true) : s.hasRoom = true := by
  unfold State.slotMark at h
  split at h
  · cases h
  · split at h
    · cases h
    · rename_i hno
      simpa [ha] using hno

theorem State.receive_mid {s : State} (h : s.mid) (r : Sys2Proof.RawFrame) : (s.receive r).mid := by
  have hread {u : State} (own : Bool) (hu : u.mid) (hf : r.source.toNat ≠ u.self → u.fq.inFlight = []) :
      (if u.slotMark r = SlotMarks.none then u.takeReading r else u.slotRejects own (u.slotMark r)).mid := by
    split
    · rename_i hm
      exact State.takeReading_mid hu r (State.hasRoom_of_slotMark hm) hf
    · exact State.slotRejects_mid hu _ _
  unfold State.receive
  split
  · exact State.afterSlot_mid h _
  · split
    · exact State.ownTaken_mid h
    · by_cases hsrc : r.source.toNat = s.self
      · simp only [hsrc, decide_true, if_true]
        exact hread true h fun hne => absurd hsrc hne
      · simp only [hsrc, decide_false, Bool.false_eq_true, if_false]
        exact hread false (State.attemptLost_mid h) fun _ => s.attemptLost_flight

theorem State.rejectedInSlot_mid {s : State} (h : s.mid) (r : Sys2Proof.RawFrame) : (s.rejectedInSlot r).mid := by
  unfold State.rejectedInSlot
  split
  · exact State.afterSlot_mid h _
  · refine State.slotRejects_mid ?_ _ _
    split
    · exact h
    · exact State.attemptLost_mid h

/-- Every command keeps the invariant. -/
theorem exec_mid {c : Sys2Proof.Instr} {s t : State} (h : s.mid) (he : exec c s = .next t) : t.mid := by
  cases hb : readsBits c with
  | false => exact exec_mid_of_not_bits hb h he
  | true =>
    cases c
    case malformedFrameTaken r =>
      cases he
      exact State.receive_mid h r
    case frameRejectedInSlot r =>
      cases he
      exact State.rejectedInSlot_mid h r
    all_goals cases hb

/-- Settles O55: the queue, the marks and the notices are part of the invariant that every command keeps. -/
theorem listsKept : Obligations.ListsKept := fun _ _ _ h he =>
  have ht := exec_mid h.mid he
  ⟨ht.queue, ht.marks, ht.notices⟩

/-- Settles O56: the lead is part of the invariant that every command keeps. -/
theorem leadKept : Obligations.LeadKept := fun _ _ _ h he => (exec_mid h.mid he).lead

/-- Settles O57: the causes, the REPLY room and the READY are part of the invariant that every command keeps. -/
theorem causesAndRoomKept : Obligations.CausesAndRoomKept := fun _ _ _ h he =>
  have ht := exec_mid h.mid he
  ⟨ht.causes, ht.room, ht.readyOk⟩

end Sys2Proof.Machine
end

section
/-! SUPPORT. The operations on the head leave the group table alone, and those on rolls change neither the number nor the
members of an entry (R25, R28). -/

-- One proof after another: elaborated side by side they need more threads than the check allows.
set_option deprecated.oldSectionVars true

namespace Sys2Proof.Machine

/-! ## The group table -/

@[simp] theorem State.retire_groups (o : RetireOutcome) (c : Option Cause) (s : State) :
    (s.retire o c).roll.groups = s.roll.groups := by
  unfold State.retire
  split <;> simp

@[simp] theorem State.haltMove_groups (c : Cause) (s : State) : (s.haltMove c).roll.groups = s.roll.groups := by
  unfold State.haltMove
  split
  · split <;> simp
  · rfl

@[simp] theorem State.haltDescent_groups (c : Cause) (s : State) : (s.haltDescent c).roll.groups = s.roll.groups := by
  unfold State.haltDescent
  split <;> simp

@[simp] theorem State.stopMove_groups (c : Cause) (d : Bool) (s : State) : (s.stopMove c d).roll.groups = s.roll.groups := by
  unfold State.stopMove
  split <;> simp

@[simp] theorem State.rampMove_groups (c : Cause) (s : State) : (s.rampMove c).roll.groups = s.roll.groups := by
  unfold State.rampMove
  split <;> simp

@[simp] theorem State.giveUp_groups (o : RetireOutcome) (c : Cause) (l : List Cause) (s : State) :
    (s.giveUp o c l).roll.groups = s.roll.groups := by simp [State.giveUp]

@[simp] theorem State.failAnnounced_groups (c : Cause) (s : State) : (s.failAnnounced c).roll.groups = s.roll.groups := by
  unfold State.failAnnounced
  split <;> simp

@[simp] theorem State.startMove_groups (m : Move) (s : State) : (s.startMove m).roll.groups = s.roll.groups := rfl

@[simp] theorem State.announce_groups (g : GroupNo) (m : Move) (s : State) : (s.announce g m).roll.groups = s.roll.groups := by
  unfold State.announce
  split <;> simp

@[simp] theorem State.completeSeek_groups (s : State) : s.completeSeek.roll.groups = s.roll.groups := by
  simp [State.completeSeek]

@[simp] theorem State.startSolo_groups (m : Move) (s : State) : (s.startSolo m).roll.groups = s.roll.groups := by
  unfold State.startSolo
  split <;> simp

@[simp] theorem State.armHead_groups (m : Move) (s : State) : (s.armHead m).roll.groups = s.roll.groups := by
  unfold State.armHead
  split
  · simp
  · split <;> simp

@[simp] theorem State.haltAct_groups (g : GroupNo) (k : HaltKind) (c : Cause) (s : State) :
    (s.haltAct g k c).roll.groups = s.roll.groups := by
  unfold State.haltAct
  repeat' split
  all_goals simp

@[simp] theorem State.withdrawn_groups (g : GroupNo) (t : Tag) (s : State) : (s.withdrawn g t).roll.groups = s.roll.groups := by
  unfold State.withdrawn
  repeat' split
  all_goals simp

@[simp] theorem State.groupBroken_groups (g : GroupNo) (s : State) : (s.groupBroken g).roll.groups = s.roll.groups := by
  unfold State.groupBroken State.breakRunning
  repeat' split
  all_goals simp

@[simp] theorem State.actOnKept_groups (c : Cause) (s : State) : (s.actOnKept c).roll.groups = s.roll.groups := by
  unfold State.actOnKept State.breakRunning
  split <;> simp

/-! ## What names the groups and the peers -/

/-- The number and the members of each entry of the group table (R25). -/
def State.groupIds (s : State) : List (GroupNo × List Addr) := s.roll.groups.map fun e => (e.number, e.members)

/-- The addresses of the Peer Table's entries (R108). -/
def State.peerIds (s : State) : List Addr := s.peer.peers.map (·.addr)

theorem State.updGroup_groupIds (s : State) (g : GroupNo) {f : GroupEntry → GroupEntry} (hn : ∀ e, (f e).number = e.number)
    (hm : ∀ e, (f e).members = e.members) : (s.updGroup g f).groupIds = s.groupIds := by
  simp only [State.groupIds, State.updGroup, State.updRoll_roll, List.map_map]
  exact List.map_congr_left fun e _ => by
    simp only [Function.comp]
    split
    · rw [hn, hm]
    · rfl

theorem State.updPeerEntry_peerIds (s : State) (a : Addr) {f : PeerEntry → PeerEntry} (hf : ∀ e, (f e).addr = e.addr) :
    (s.updPeerEntry a f).peerIds = s.peerIds := by
  simp only [State.peerIds, State.updPeerEntry, State.updPeer_peer, List.map_map]
  exact List.map_congr_left fun e _ => by
    simp only [Function.comp]
    split
    · exact hf e
    · rfl

theorem State.startEvent_groupIds (g : GroupNo) (t : Tag) (s : State) : (s.startEvent g t).groupIds = s.groupIds := by
  rw [← s.updGroup_groupIds g (f := (·.emptyTag t)) (fun _ => rfl) fun e => e.emptyTag_members t]
  unfold State.startEvent
  dsimp only
  split
  · split <;> simp [State.groupIds]
  · simp [State.groupIds]

theorem State.readyTake_groupIds (src : Addr) (g : GroupNo) (t : Tag) (s : State) :
    (s.readyTake src g t).groupIds = s.groupIds := by
  unfold State.readyTake
  split
  · rfl
  · split
    · rw [← s.updGroup_groupIds g (f := (·.write src (some t))) (fun _ => rfl) fun e => e.write_members _ _]
      dsimp only
      split
      · exact State.startEvent_groupIds _ _ _
      · repeat' split
        all_goals simp [State.groupIds]
    · rfl

theorem State.withdrawTake_groupIds (src : Addr) (g : GroupNo) (t : Tag) (s : State) :
    (s.withdrawTake src g t).groupIds = s.groupIds := by
  unfold State.withdrawTake
  split
  · rfl
  · split
    · rw [← s.updGroup_groupIds g (f := (·.emptyTag t)) (fun _ => rfl) fun e => e.emptyTag_members t]
      dsimp only
      split <;> simp [State.groupIds]
    · rfl

theorem State.haltTake_groupIds (src : Addr) (g : GroupNo) (k : HaltKind) (s : State) :
    (s.haltTake src g k).groupIds = s.groupIds := by
  unfold State.haltTake
  split
  · rfl
  · rw [← s.updGroup_groupIds g (f := (·.emptyAll)) (fun _ => rfl) fun e => e.emptyAll_members]
    simp [State.groupIds]

theorem State.groupScaleTake_groupIds (g p : Nat) (s : State) : (s.groupScaleTake g p).groupIds = s.groupIds := by
  unfold State.groupScaleTake
  split
  · dsimp only
    split
    · rw [← s.updGroup_groupIds g (f := fun e => { e with scale := p }) (fun _ => rfl) fun _ => rfl]
      split <;> simp [State.groupIds]
    · rfl
  · rfl

theorem State.presenceInGroup_groupIds (a : Addr) (lost : Bool) (g : GroupNo) (s : State) :
    (s.presenceInGroup a lost g).groupIds = s.groupIds := by
  unfold State.presenceInGroup
  split
  · rfl
  · rename_i e _
    rw [← s.updGroup_groupIds g (f := fun x => { (if lost then x.write a none else x) with state := s.judgedState e lost })
      (fun x => by cases lost <;> rfl) fun x => by
        cases lost
        · rfl
        · exact x.write_members a none]
    dsimp only
    split <;> simp [State.groupIds]

theorem State.presenceInGroups_groupIds (a : Addr) (lost : Bool) (gs : List GroupNo) (s : State) :
    (gs.foldl (State.presenceInGroup a lost) s).groupIds = s.groupIds := by
  induction gs generalizing s with
  | nil => rfl
  | cons g gs ih => exact (ih _).trans (s.presenceInGroup_groupIds a lost g)

end Sys2Proof.Machine
end

section
/-! SUPPORT. What an event leaves of the tables: the GROUP records, the numbers and members of the group table and the
addresses of the Peer Table stay as COMMIT made them, and a node that has none of them stays without (R25, R83, R108, R122,
R123). -/

-- One proof after another: elaborated side by side they need more threads than the check allows.
set_option deprecated.oldSectionVars true

namespace Sys2Proof.Machine

/-- The node as it is before COMMIT: UNCONFIGURED, with no move, notice, group or peer, and DREN inactive (R24, R83, R122). -/
structure State.fresh (s : State) : Prop where
  state   : s.mc.state = .unconfigured
  queue   : s.mc.queue = []
  notices : s.mc.notices = []
  dren    : s.out.dren = false
  groups  : s.roll.groups = []
  peers   : s.peer.peers = []

/-- The address, the Configuration Store and what names the groups and peers stay, and a node not yet configured stays so. -/
structure State.KeepsTables (s t : State) : Prop where
  addr   : t.link.addr = s.link.addr := by simp
  store  : t.store = s.store := by simp
  peers  : t.peerIds = s.peerIds := by simp [State.peerIds]
  groups : t.groupIds = s.groupIds := by simp [State.groupIds]
  fresh  : s.fresh → t.fresh

namespace State

theorem KeepsTables.refl (s : State) : KeepsTables s s := ⟨rfl, rfl, rfl, rfl, id⟩

theorem KeepsTables.trans {s t u : State} (h : KeepsTables s t) (h' : KeepsTables t u) : KeepsTables s u :=
  ⟨h'.addr.trans h.addr, h'.store.trans h.store, h'.peers.trans h.peers, h'.groups.trans h.groups, h'.fresh ∘ h.fresh⟩

/-- What the tables are read from has not changed. -/
theorem KeepsTables.of_frame {s t : State} (addr : t.link.addr = s.link.addr := by simp) (store : t.store = s.store := by simp)
    (peer : t.peer.peers = s.peer.peers := by simp) (roll : t.roll.groups = s.roll.groups := by simp)
    (state : t.mc.state = s.mc.state := by simp) (queue : t.mc.queue = s.mc.queue := by simp)
    (notices : t.mc.notices = s.mc.notices := by simp) (dren : t.out.dren = s.out.dren := by simp) : KeepsTables s t :=
  ⟨addr, store, by simp [peerIds, peer], by simp [groupIds, roll],
    fun ⟨h1, h2, h3, h4, h5, h6⟩ =>
      ⟨state.trans h1, queue.trans h2, notices.trans h3, dren.trans h4, roll.trans h5, peer.trans h6⟩⟩

theorem updFq_keepsTables (f : FrameQueue → FrameQueue) (s : State) : s.KeepsTables (s.updFq f) := .of_frame

theorem updLink_keepsTables {f : Link → Link} {s : State} (h : (f s.link).addr = s.link.addr) : s.KeepsTables (s.updLink f) :=
  .of_frame (addr := h)

theorem afterSlot_keepsTables (m : SlotMarks) (s : State) : s.KeepsTables (s.afterSlot m) := updLink_keepsTables rfl

theorem restartBeacon_keepsTables (s : State) : s.KeepsTables s.restartBeacon := .of_frame (peer := rfl)

theorem addCauses_keepsTables (l : List Cause) (s : State) : s.KeepsTables (s.addCauses l) := .of_frame

/-! ## A node not yet configured -/

theorem fresh.head {s : State} (h : s.fresh) : s.head = none := by simp [State.head, h.queue]

theorem fresh.groupEntry {s : State} (h : s.fresh) (g : GroupNo) : s.groupEntry g = none := by
  simp [State.groupEntry, h.groups]

theorem fresh.noticeFor {s : State} (h : s.fresh) (g : GroupNo) : s.noticeFor g = none := by
  simp [State.noticeFor, h.notices]

/-! ## The end of the head -/

theorem retire_keepsTables (o : RetireOutcome) (c : Option Cause) (s : State) : s.KeepsTables (s.retire o c) where
  fresh h := by simpa [retire, h.queue] using h

theorem giveUp_keepsTables (o : RetireOutcome) (c : Cause) (l : List Cause) (s : State) : s.KeepsTables (s.giveUp o c l) :=
  ((s.updFq_keepsTables _).trans (s.removeReady.retire_keepsTables o (some c))).trans (addCauses_keepsTables l _)

theorem replyFreed_keepsTables (s : State) : s.KeepsTables s.replyFreed := by
  unfold replyFreed
  split
  · exact .refl s
  · split
    · rename_i w _ _
      have hp : s.KeepsTables ((s.push (.report w.origin w.record)).updMc fun m => { m with record := none }) := .of_frame
      dsimp only
      split
      · exact hp.trans (retire_keepsTables _ _ _)
      · exact hp
    · exact .refl s

theorem unreserved_keepsTables (s : State) : s.KeepsTables s.unreserved := by
  unfold unreserved
  split
  · exact (s.updFq_keepsTables _).trans (s.reserve false).replyFreed_keepsTables
  · exact .refl s

/-! ## The end of an event -/

@[simp] theorem linkCause_groups (s : State) : s.linkCause.roll.groups = s.roll.groups := by
  unfold linkCause
  repeat' split
  all_goals simp

theorem takeLink_keepsTables (s : State) : s.KeepsTables s.takeLink :=
  have h : s.KeepsTables s.linkCause := { fresh := fun h => by simpa [linkCause, h.state] using h }
  h.trans (.of_frame (t := s.linkCause.updMc _))

theorem giveLink_keepsTables (s : State) : s.KeepsTables s.giveLink := by
  unfold giveLink
  split
  · exact s.takeLink_keepsTables
  · exact .refl s

theorem settle_keepsTables (n : Nat) (s : State) : s.KeepsTables (s.settle n) := by
  induction n generalizing s with
  | zero => exact s.giveLink_keepsTables
  | succ n ih =>
    have hg := s.giveLink_keepsTables
    simp only [settle]
    split
    · rename_i m _ hp _
      split
      · have ha : s.giveLink.KeepsTables (s.giveLink.armHead m) :=
          { fresh := fun h => absurd (hp.symm.trans h.state) (by simp) }
        exact (hg.trans ha).trans (ih _)
      · exact hg
    · exact hg

theorem fillUrgent_keepsTables (s : State) : s.KeepsTables s.fillUrgent where
  fresh h := by simpa [fillUrgent, h.notices] using h

theorem offer_keepsTables (s : State) : s.KeepsTables s.offer := .of_frame

theorem finish_keepsTables (s : State) : s.KeepsTables s.finish :=
  ((s.settle_keepsTables _).trans (fillUrgent_keepsTables _)).trans (offer_keepsTables _)

theorem released_keepsTables (s : State) : s.KeepsTables s.released := by
  unfold released
  split
  · exact s.unreserved_keepsTables.trans (finish_keepsTables _)
  · exact .refl s

/-! ## The ends of an attempt -/

theorem noticeReturned_keepsTables (g : GroupNo) (s : State) : s.KeepsTables (s.noticeReturned g) where
  fresh h := by simpa [noticeReturned, h.noticeFor] using h

theorem noticeTaken_keepsTables (g : GroupNo) (s : State) : s.KeepsTables (s.noticeTaken g) where
  fresh h := by simpa [noticeTaken, h.noticeFor] using h

theorem noticeDiscarded_keepsTables (g : GroupNo) (s : State) : s.KeepsTables (s.noticeDiscarded g) where
  fresh h := by simpa [noticeDiscarded, h.noticeFor] using h

theorem returned_keepsTables (f : OutFrame) (s : State) : s.KeepsTables (s.returned f) := by
  unfold returned
  split
  · split
    · exact .refl s
    · exact s.giveUp_keepsTables _ _ _
  · exact s.noticeReturned_keepsTables _
  · exact .refl s

theorem attemptLost_keepsTables (s : State) : s.KeepsTables s.attemptLost := by
  unfold attemptLost
  split
  · exact .refl s
  · exact (((s.updFq_keepsTables _).trans (updLink_keepsTables rfl)).trans (returned_keepsTables _ _)).trans (finish_keepsTables _)

theorem discard_keepsTables (f : OutFrame) (s : State) : s.KeepsTables (s.discard f) := by
  have told (u : State) : u.KeepsTables (u.discardTold f) := by
    unfold discardTold
    split
    · split
      · exact u.noticeDiscarded_keepsTables _
      · exact .refl u
    · exact u.replyFreed_keepsTables
    · exact .refl u
  have link (u : State) : u.KeepsTables (u.discardLink f) := by
    unfold discardLink
    split
    · exact u.takeLink_keepsTables
    · exact u.takeLink_keepsTables
    · exact .refl u
  exact (((updLink_keepsTables rfl).trans (updFq_keepsTables _ _)).trans (told _)).trans (link _)

theorem attemptRejected_keepsTables (s : State) : s.KeepsTables s.attemptRejected := by
  unfold attemptRejected
  split
  · exact .refl s
  · split
    · exact ((s.updFq_keepsTables _).trans (updLink_keepsTables rfl)).trans (returned_keepsTables _ _)
    · exact s.discard_keepsTables _

theorem attemptBusy_keepsTables (s : State) : s.KeepsTables s.attemptBusy := by
  unfold attemptBusy
  split
  · exact .refl s
  · split
    · have hl : s.KeepsTables (s.updLink fun l => { l with rejects := 0 }) := updLink_keepsTables rfl
      dsimp only
      split
      · exact hl.trans (updFq_keepsTables _ _)
      · exact (hl.trans (updFq_keepsTables _ _)).trans (replyFreed_keepsTables _)
    · exact s.attemptRejected_keepsTables

theorem slotRejects_keepsTables (own : Bool) (m : SlotMarks) (s : State) : s.KeepsTables (s.slotRejects own m) := by
  have ha := s.afterSlot_keepsTables m
  unfold slotRejects
  split
  · exact ((ha.trans (unreserved_keepsTables _)).trans (attemptRejected_keepsTables _)).trans (finish_keepsTables _)
  · exact ha.trans (released_keepsTables _)

theorem clash_keepsTables (s : State) : s.KeepsTables s.clash := by
  have hq := s.updFq_keepsTables FrameQueue.requeue
  have hblocked {u : State} (hu : s.KeepsTables u) :
      s.KeepsTables (((u.afterSlot SlotMarks.none).updLink fun l =>
        { l with state := .blocked, listenTimer := none, rejects := 0 }).restartBeacon.unreserved.takeLink.finish) := by
    have hb := (hu.trans (u.afterSlot_keepsTables SlotMarks.none)).trans (updLink_keepsTables (f := fun l =>
      { l with state := .blocked, listenTimer := none, rejects := 0 }) rfl)
    exact (((hb.trans (restartBeacon_keepsTables _)).trans (unreserved_keepsTables _)).trans (takeLink_keepsTables _)).trans
      (finish_keepsTables _)
  unfold clash
  dsimp only
  split
  · split
    · exact hblocked (hq.trans (noticeReturned_keepsTables _ _))
    · exact hblocked hq
  · exact hblocked hq

/-! ## Frames of coordination -/

theorem setPresence_keepsTables (a : Addr) (p : Presence) (s : State) : s.KeepsTables (s.setPresence a p) := by
  unfold setPresence
  split
  · exact .refl s
  · rename_i e he
    split
    · exact .refl s
    · exact {
        peers := by
          rw [← s.updPeerEntry_peerIds a (f := fun x => { x with presence := p }) fun _ => rfl]
          simp [peerIds]
        groups := (presenceInGroups_groupIds _ _ _ _).trans rfl
        fresh := fun h => by simp [peerEntry, h.peers] at he }

theorem hear_keepsTables (src : Addr) (h : Heard) (s : State) : s.KeepsTables (s.hear src h) := by
  have hu : s.KeepsTables
      (s.updPeerEntry src fun e => { e with timer := some s.timing.loss, lastState := h.lastState e.lastState }) :=
    { peers := s.updPeerEntry_peerIds src fun _ => rfl
      fresh := fun hf => ⟨hf.state, hf.queue, hf.notices, hf.dren, hf.groups, by simp [updPeerEntry, hf.peers]⟩ }
  unfold hear
  dsimp only
  split
  · exact hu.trans (setPresence_keepsTables _ _ _)
  · exact hu

theorem readyTake_keepsTables (src : Addr) (g : GroupNo) (t : Tag) (s : State) : s.KeepsTables (s.readyTake src g t) where
  groups := s.readyTake_groupIds src g t
  fresh h := by simpa [readyTake, h.groupEntry] using h

theorem withdrawTake_keepsTables (src : Addr) (g : GroupNo) (t : Tag) (s : State) :
    s.KeepsTables (s.withdrawTake src g t) where
  groups := s.withdrawTake_groupIds src g t
  fresh h := by simpa [withdrawTake, h.groupEntry] using h

theorem haltTake_keepsTables (src : Addr) (g : GroupNo) (k : HaltKind) (s : State) : s.KeepsTables (s.haltTake src g k) where
  groups := s.haltTake_groupIds src g k
  fresh h := by simpa [haltTake, h.groupEntry] using h

theorem markTake_keepsTables (src : Addr) (t : Tag) (n : Nat) (o : MarkOutcome) (s : State) :
    s.KeepsTables (s.markTake src t n o) := .of_frame

theorem groupScaleTake_keepsTables (g p : Nat) (s : State) : s.KeepsTables (s.groupScaleTake g p) := by
  have hf : s.fresh → (s.groupScaleTake g p).fresh := fun h => by simpa [groupScaleTake, h.groupEntry] using h
  have hg := s.groupScaleTake_groupIds g p
  revert hf hg
  unfold groupScaleTake
  dsimp only
  repeat' split
  all_goals exact fun hf hg => { groups := hg, fresh := hf }

/-! ## This node's own frame -/

theorem decideKept_keepsTables (kept : List Cause) (s : State) : s.KeepsTables (s.decideKept kept) := by
  have hf : s.fresh → (s.decideKept kept).fresh := fun h => by simpa [decideKept, h.state] using h
  refine { fresh := hf, groups := ?_ }
  unfold decideKept groupIds
  repeat' split
  all_goals simp

theorem ownDispatch_keepsTables (f : OutFrame) (s : State) : s.KeepsTables (s.ownDispatch f) := by
  have hend (u : State) : u.KeepsTables (u.updFq FrameQueue.endSending) := u.updFq_keepsTables _
  unfold ownDispatch
  split
  · have hk : s.KeepsTables (s.updMc fun m => { m with kept := [] }) := .of_frame
    exact ((hk.trans (readyTake_keepsTables _ _ _ _)).trans (hend _)).trans (decideKept_keepsTables _ _)
  · exact (withdrawTake_keepsTables _ _ _ s).trans (hend _)
  · rename_i g _ _ _
    have hg : s.KeepsTables (s.updGroup g (·.emptyAll)) :=
      { groups := s.updGroup_groupIds _ (fun _ => rfl) fun e => e.emptyAll_members
        fresh := fun h => ⟨h.state, h.queue, h.notices, h.dren, by simp [updGroup, h.groups], h.peers⟩ }
    exact (hg.trans (hend _)).trans (noticeTaken_keepsTables _ _)
  · exact (markTake_keepsTables _ _ _ _ s).trans (hend _)
  · exact hend s
  all_goals exact (hend s).trans (replyFreed_keepsTables _)

theorem ownTaken_keepsTables (s : State) : s.KeepsTables s.ownTaken := by
  unfold ownTaken
  split
  · exact .refl s
  · have hu := ((s.afterSlot_keepsTables SlotMarks.none).trans (unreserved_keepsTables _)).trans
      (updLink_keepsTables (f := fun l => { l with rejects := 0 }) rfl)
    exact ((hu.trans (restartBeacon_keepsTables _)).trans (ownDispatch_keepsTables _ _)).trans
      (finish_keepsTables _)

end State

end Sys2Proof.Machine
end

section
/-! SUPPORT. The link and the entry in transmission after each event: the link sends only while ACTIVE, one frame at a time and
as a frame in progress, its listen timer runs exactly while it is LISTEN_ONLY, and a BLOCKED link stays BLOCKED (R136, R137,
R144, R146, R147). -/

-- One proof after another: elaborated side by side they need more threads than the check allows.
set_option deprecated.oldSectionVars true

namespace Sys2Proof.Machine

namespace State

/-! ## What else leaves the entry in transmission -/

theorem staleStart_keepsFlight (g : GroupNo) (t : Tag) (s : State) : s.fq.KeepsFlight (s.staleStart g t).fq := by
  unfold staleStart
  split
  · have hq : s.fq.KeepsFlight (s.updFq fun q => q.removeQueued (OutFrame.isToldByNotice g t)).fq :=
      s.fq.keepsFlight_removeQueued _
    exact hq.trans (raiseNotice_keepsRoom _ _ _ _).toKeepsFlight
  · exact (raiseNotice_keepsRoom _ _ _ s).toKeepsFlight

theorem startEvent_keepsFlight (g : GroupNo) (t : Tag) (s : State) : s.fq.KeepsFlight (s.startEvent g t).fq := by
  unfold startEvent
  dsimp only
  split
  · split
    · exact s.fq.keepsFlight_removeQueued _
    · exact .refl _
  · exact staleStart_keepsFlight g t (s.updGroup g _)

theorem readyTake_keepsFlight (src : Addr) (g : GroupNo) (t : Tag) (s : State) : s.fq.KeepsFlight (s.readyTake src g t).fq := by
  unfold readyTake
  split
  · exact .refl _
  · split
    · dsimp only
      split
      · exact startEvent_keepsFlight g t (s.updGroup g _)
      · split
        · exact giveUp_keepsFlight _ _ _ (s.updGroup g _)
        · split <;> exact .refl _
    · exact .refl _

theorem withdrawn_keepsFlight (g : GroupNo) (t : Tag) (s : State) : s.fq.KeepsFlight (s.withdrawn g t).fq := by
  unfold withdrawn
  split
  · split
    · exact s.giveUp_keepsFlight _ _ _
    · split
      · exact .refl _
      · rw [(judgeGates_frame _).2.1]
        exact .refl _
  · exact .refl _

theorem withdrawTake_keepsFlight (src : Addr) (g : GroupNo) (t : Tag) (s : State) :
    s.fq.KeepsFlight (s.withdrawTake src g t).fq := by
  unfold withdrawTake
  split
  · exact .refl _
  · split
    · dsimp only
      split
      · exact .refl _
      · exact withdrawn_keepsFlight g t (s.updGroup g _)
    · exact .refl _

theorem haltAct_keepsFlight (g : GroupNo) (k : HaltKind) (c : Cause) (s : State) : s.fq.KeepsFlight (s.haltAct g k c).fq := by
  unfold haltAct
  split
  case h_5 | h_6 => split <;> exact s.giveUp_keepsFlight _ _ _
  case h_7 =>
    split
    · split
      · exact (haltDescent_keepsReadies c (s.addCause c)).toKeepsFlight
      · exact (s.haltMove_keepsReadies c).toKeepsFlight
    · exact .refl _
  case h_8 =>
    split
    · split
      · exact .refl _
      · exact (s.haltMove_keepsReadies c).toKeepsFlight
    · exact .refl _
  all_goals exact .refl _

theorem haltTake_keepsFlight (src : Addr) (g : GroupNo) (k : HaltKind) (s : State) :
    s.fq.KeepsFlight (s.haltTake src g k).fq := by
  unfold haltTake
  split
  · exact .refl _
  · exact (haltMeetsNotice_keepsRoom g k (s.updGroup g _)).toKeepsFlight.trans (haltAct_keepsFlight _ _ _ _)

theorem actOnKept_keepsFlight (c : Cause) (s : State) : s.fq.KeepsFlight (s.actOnKept c).fq := by
  unfold actOnKept
  split
  · exact (s.stopMove_keepsReadies _ _).toKeepsFlight
  · exact (s.rampMove_keepsReadies _).toKeepsFlight
  · exact (s.stopMove_keepsReadies _ _).toKeepsFlight

theorem addCauses_keepsFlight (l : List Cause) (s : State) : s.fq.KeepsFlight (s.addCauses l).fq := by
  rw [(addCauses_frame l s).2.1]
  exact .refl _

theorem decideKept_keepsFlight (kept : List Cause) (s : State) : s.fq.KeepsFlight (s.decideKept kept).fq := by
  unfold decideKept
  split
  · split
    · exact .refl _
    · exact (s.actOnKept_keepsFlight _).trans (addCauses_keepsFlight _ _)
  · split
    · exact .refl _
    · exact s.giveUp_keepsFlight _ _ _
  · exact s.addCauses_keepsFlight kept
  · exact .refl _

/-- The entry of this node's own frame that was taken has left (R153). -/
theorem ownDispatch_flight (f : OutFrame) (s : State) : (s.ownDispatch f).fq.inFlight = [] := by
  have hend (u : State) : (u.updFq FrameQueue.endSending).fq.inFlight = [] := u.fq.inFlight_endSending
  unfold ownDispatch
  split
  case h_1 => exact (decideKept_keepsFlight _ _).flight.trans (hend _)
  case h_3 => simp
  case h_6 | h_7 | h_8 | h_9 => exact (replyFreed_keepsReadies _).flight.trans (hend _)
  all_goals exact hend _

theorem discardTold_keepsFlight (f : OutFrame) (s : State) : s.fq.KeepsFlight (s.discardTold f).fq := by
  unfold discardTold
  split
  · split
    · exact (s.noticeDiscarded_keepsRoom _).toKeepsFlight
    · exact .refl _
  · exact s.replyFreed_keepsReadies.toKeepsFlight
  · exact .refl _

theorem discardLink_keepsFlight (f : OutFrame) (s : State) : s.fq.KeepsFlight (s.discardLink f).fq := by
  unfold discardLink
  split
  · exact s.linkCause_keepsFlight
  · exact s.linkCause_keepsFlight
  · exact .refl _

@[simp] theorem unreserved_link (s : State) : s.unreserved.link = s.link := by
  unfold unreserved
  split <;> simp

/-! ## The link -/

/-- The link with the entry in transmission, but for the frame in progress: only an ACTIVE link sends, the listen timer runs
exactly while it is LISTEN_ONLY, the bus is not idle while a frame is in progress, and the link is BLOCKED if `b` (R136, R144,
R146, R147). -/
structure wired (b : Prop) (s : State) : Prop where
  active  : s.fq.inFlight ≠ [] → s.link.state = .active
  listens : s.link.listenTimer.isSome = true ↔ s.link.state = .listenOnly
  bus     : s.link.inFrame = true → s.link.idleCount < 12
  blocked : b → s.link.state = .blocked

/-- The entry in transmission is a frame in progress too (R137). -/
structure linked (b : Prop) (s : State) : Prop extends wired b s where
  framed : s.fq.inFlight ≠ [] → s.link.inFrame = true

theorem wired.congr {b : Prop} {s t : State} (h : wired b s) (hl : t.link = s.link) (hf : t.fq.inFlight = s.fq.inFlight) :
    wired b t :=
  ⟨by rw [hl, hf]; exact h.active, hl ▸ h.listens, hl ▸ h.bus, hl ▸ h.blocked⟩

theorem linked.congr {b : Prop} {s t : State} (h : linked b s) (hl : t.link = s.link) (hf : t.fq.inFlight = s.fq.inFlight) :
    linked b t :=
  ⟨h.towired.congr hl hf, by rw [hl, hf]; exact h.framed⟩

/-- Nothing is asked of the frame in progress where no entry is in transmission. -/
theorem wired.linked {b : Prop} {s : State} (h : wired b s) (hf : s.fq.inFlight = []) : linked b s :=
  ⟨h, fun hne => absurd hf hne⟩

/-- The link of a state without an entry in transmission. -/
theorem linked_of_still {b : Prop} {t : State} (hf : t.fq.inFlight = [])
    (listens : t.link.listenTimer.isSome = true ↔ t.link.state = .listenOnly)
    (bus : t.link.inFrame = true → t.link.idleCount < 12) (blocked : b → t.link.state = .blocked) : linked b t :=
  ⟨⟨fun h => absurd hf h, listens, bus, blocked⟩, fun h => absurd hf h⟩

variable {b : Prop} {s : State}

theorem afterSlot_wired (m : SlotMarks) (h : wired b s) : wired b (s.afterSlot m) :=
  ⟨h.active, h.listens, nofun, h.blocked⟩

theorem unreserved_wired (h : wired b s) : wired b s.unreserved := h.congr (by simp) s.unreserved_flight

/-! ## The end of an event -/

/-- An entry goes into transmission on an ACTIVE link, its start mark a frame in progress (R137). -/
theorem offer_linked (h : linked b s) : linked b s.offer := by
  rcases s.offer_cases with ⟨he, -⟩ | ⟨k, ha, -, -, -, he⟩
  · rwa [he]
  · rw [he]
    exact ⟨⟨fun _ => ha, h.listens, fun _ => Nat.zero_lt_succ _, h.blocked⟩, fun _ => rfl⟩

theorem finish_linked (h : linked b s) : linked b s.finish :=
  offer_linked (h.congr (by simp)
    ((settle_keepsFlight _ s).trans (fillUrgent_keepsRoom _).toKeepsFlight).flight)

theorem released_linked (h : linked b s) : linked b s.released := by
  unfold released
  split
  · exact finish_linked (h.congr (by simp) s.unreserved_flight)
  · exact h

/-! ## The ends of an attempt -/

theorem attemptLost_linked (h : linked b s) : linked b s.attemptLost := by
  unfold attemptLost
  split
  · exact h
  · refine finish_linked (linked_of_still ?_ ?_ ?_ ?_)
    · exact (returned_keepsFlight _ _).flight.trans s.fq.inFlight_requeue
    · simpa using h.listens
    · simp
    · simpa using h.blocked

/-- A discard makes an ACTIVE link LISTEN_ONLY and starts its listen timer (R144). -/
theorem discard_linked (f : OutFrame) (h : wired b s) (hf : s.fq.inFlight ≠ []) : linked b (s.discard f) := by
  have ha := h.active hf
  unfold discard
  refine linked_of_still ?_ ?_ ?_ ?_
  · exact ((discardTold_keepsFlight _ _).trans (discardLink_keepsFlight _ _)).flight.trans s.fq.inFlight_endSending
  · simp
  · simpa using h.bus
  · intro hb
    simp [h.blocked hb] at ha

theorem inFlight_ne_nil {e : Entry} (h : s.fq.sending = some e) : s.fq.inFlight ≠ [] := by
  rw [Ne, ← FrameQueue.sending_eq_none_iff, h]
  exact nofun

theorem attemptRejected_linked (h : wired b s) : linked b s.attemptRejected := by
  unfold attemptRejected
  split
  · exact h.linked ((s.fq.sending_eq_none_iff).mp ‹_›)
  · split
    · refine linked_of_still ?_ ?_ ?_ ?_
      · exact (returned_keepsFlight _ _).flight.trans s.fq.inFlight_requeue
      · simpa using h.listens
      · simpa using h.bus
      · simpa using h.blocked
    · exact discard_linked _ h (inFlight_ne_nil ‹_›)

theorem attemptBusy_linked (h : wired b s) : linked b s.attemptBusy := by
  unfold attemptBusy
  split
  · exact h.linked ((s.fq.sending_eq_none_iff).mp ‹_›)
  · split
    · dsimp only
      split
      · exact linked_of_still (by simp) h.listens h.bus h.blocked
      · refine linked_of_still ((replyFreed_keepsReadies _).flight.trans (by simp)) ?_ ?_ ?_
        · simpa using h.listens
        · simpa using h.bus
        · simpa using h.blocked
    · exact attemptRejected_linked h

theorem slotRejects_linked {own : Bool} (m : SlotMarks) (h : linked b s) (hs : own = false → s.fq.inFlight = []) :
    linked b (s.slotRejects own m) := by
  have ha := afterSlot_wired m h.towired
  unfold slotRejects
  split
  · exact finish_linked (attemptRejected_linked (unreserved_wired ha))
  · exact released_linked (ha.linked (hs (by simpa using ‹¬own = true›)))

theorem ownTaken_linked (h : linked b s) : linked b s.ownTaken := by
  unfold ownTaken
  split
  · exact h
  · have hu := unreserved_wired (afterSlot_wired SlotMarks.none h.towired)
    refine finish_linked (linked_of_still (ownDispatch_flight _ _) ?_ ?_ ?_)
    · simpa using hu.listens
    · simp
    · simpa using hu.blocked

/-- An address clash leaves the link BLOCKED, with nothing in transmission (R147). -/
theorem clash_linked (s : State) : linked b s.clash := by
  have hblocked (u : State) (hu : u.fq.inFlight = []) :
      linked b (((u.afterSlot SlotMarks.none).updLink fun l =>
        { l with state := .blocked, listenTimer := none, rejects := 0 }).restartBeacon.unreserved.takeLink.finish) := by
    refine finish_linked (linked_of_still ?_ ?_ ?_ ?_)
    · exact (linkCause_keepsFlight _).flight.trans ((unreserved_flight _).trans hu)
    · simp
    · simp
    · simp
  have hq : (s.updFq FrameQueue.requeue).fq.inFlight = [] := s.fq.inFlight_requeue
  unfold clash
  dsimp only
  split
  · split
    · exact hblocked _ ((noticeReturned_keepsRoom _ _).flight.trans hq)
    · exact hblocked _ hq
  · exact hblocked _ hq

end State

end Sys2Proof.Machine
end

section
/-! Every command keeps the configuration, the tables and the link sound, and a BLOCKED link stays BLOCKED until RESET or
power-on (R25, R108, R122 to R124, R131, R136, R137, R144, R146, R147). -/

-- One proof after another: elaborated side by side they need more threads than the check allows.
set_option deprecated.oldSectionVars true

namespace Sys2Proof.Machine

namespace State

/-- The tables as their records made them: GROUP records, group table entries, members and peers without repetition, no peer
of this node's own address, and nothing of them before COMMIT (R25, R83, R108, R122 to R124). -/
structure tidy (s : State) : Prop where
  records : (s.store.groups.map (·.number)).Nodup
  ranges  : ∀ r ∈ s.store.groups, ∀ a ∈ r.members, 1 ≤ a ∧ a ≤ 30
  groups  : (s.groupIds.map (·.1)).Nodup
  rolls   : ∀ x ∈ s.groupIds, x.2.Nodup
  peers   : s.peerIds.Nodup
  others  : s.self ∉ s.peerIds
  fresh   : s.store.committed = false → s.fresh

theorem tidy.of_keeps {s t : State} (h : s.tidy) (hk : s.KeepsTables t) : t.tidy := by
  obtain ⟨records, ranges, groups, rolls, peers, others, fresh⟩ := h
  obtain ⟨haddr, hstore, hpeers, hgroups, hfresh⟩ := hk
  have hself : t.self = s.self := by simp [State.self, haddr]
  exact ⟨hstore ▸ records, hstore ▸ ranges, hgroups ▸ groups, hgroups ▸ rolls, hpeers ▸ peers, by rwa [hself, hpeers],
    fun hc => hfresh (fresh (hstore ▸ hc))⟩

/-- The tables and the link together; the link is BLOCKED if `b`. -/
structure firm (b : Prop) (s : State) : Prop where
  tables : s.tidy
  link   : linked b s

variable {b : Prop} {s : State}

/-- An operation that leaves the link and the entry in transmission alone. -/
theorem firm.of_keeps {t : State} (h : firm b s) (hk : s.KeepsTables t) (hf : t.fq.inFlight = s.fq.inFlight)
    (hl : t.link = s.link := by simp) : firm b t :=
  ⟨h.tables.of_keeps hk, h.link.congr hl hf⟩

theorem offer_firm (h : firm b s) : firm b s.offer := ⟨h.tables.of_keeps s.offer_keepsTables, offer_linked h.link⟩

theorem finish_firm (h : firm b s) : firm b s.finish := ⟨h.tables.of_keeps s.finish_keepsTables, finish_linked h.link⟩

theorem released_firm (h : firm b s) : firm b s.released :=
  ⟨h.tables.of_keeps s.released_keepsTables, released_linked h.link⟩

theorem attemptLost_firm (h : firm b s) : firm b s.attemptLost :=
  ⟨h.tables.of_keeps s.attemptLost_keepsTables, attemptLost_linked h.link⟩

theorem ownTaken_firm (h : firm b s) : firm b s.ownTaken :=
  ⟨h.tables.of_keeps s.ownTaken_keepsTables, ownTaken_linked h.link⟩

theorem clash_firm (h : firm b s) : firm b s.clash := ⟨h.tables.of_keeps s.clash_keepsTables, s.clash_linked⟩

theorem slotRejects_firm {own : Bool} (m : SlotMarks) (h : firm b s) (hs : own = false → s.fq.inFlight = []) :
    firm b (s.slotRejects own m) :=
  ⟨h.tables.of_keeps (s.slotRejects_keepsTables own m), slotRejects_linked m h.link hs⟩

/-- A slot ends with nothing of this node's in transmission. -/
theorem afterSlot_firm (m : SlotMarks) (h : firm b s) (hf : s.fq.inFlight = []) : firm b (s.afterSlot m) :=
  ⟨h.tables.of_keeps (s.afterSlot_keepsTables m), (afterSlot_wired m h.link.towired).linked hf⟩

theorem firm.still_of_offline (h : firm b s) (ho : s.link.state = .offline) : s.fq.inFlight = [] := by
  by_contra hf
  simp [h.link.active hf] at ho

/-! ## Taking a frame -/

theorem hear_firm (src : Addr) (k : Heard) (h : firm b s) : firm b (s.hear src k) :=
  h.of_keeps (s.hear_keepsTables src k) (hear_keepsFlight src k s).flight

theorem takeHeld_firm (src : Addr) (own : OutFrame → Bool) {act : State → State} (h : firm b s)
    (ha : ∀ u : State, firm b u → (act u).firm b) : firm b (s.takeHeld src own act) := by
  unfold takeHeld
  split
  · exact afterSlot_firm _ h (h.still_of_offline ‹_›)
  · split
    · split
      · exact ownTaken_firm h
      · exact clash_firm h
    · exact ha _ (afterSlot_firm _ (attemptLost_firm h) s.attemptLost_flight)

theorem takeFrom_firm (src : Addr) (own : OutFrame → Bool) {act : State → State} (h : firm b s)
    (ha : ∀ u : State, firm b u → (act u).firm b) : firm b (s.takeFrom src own act) :=
  takeHeld_firm src own (released_firm h) ha

/-! ## Requests -/

theorem reserve_firm (r : Bool) (h : firm b s) : firm b (s.reserve r) := h.of_keeps (s.updFq_keepsTables _) rfl

theorem fill_firm (f : OutFrame) (h : firm b s) : firm b (s.fill f) := h.of_keeps .of_frame (by simp)

/-- A request, if its action keeps the tables and the link of a state with nothing of this node's in transmission. -/
theorem request_firm (src num : Nat) (k : RequestKind) {act : State → State × Reply} {after : State → State} (h : firm b s)
    (hafter : ∀ u : State, firm b u → (after u).firm b)
    (ha : ∀ u : State, firm b u → u.fq.inFlight = [] → (act u).1.firm b) : firm b (s.request src num k act after) := by
  unfold request
  split
  · exact afterSlot_firm _ h (h.still_of_offline ‹_›)
  · by_cases hsrc : src = s.self
    · simp only [if_pos hsrc]
      split
      · exact slotRejects_firm _ h (by simp [hsrc])
      · exact clash_firm h
    · have hl := attemptLost_firm h
      simp only [if_neg hsrc]
      split
      · exact slotRejects_firm _ hl fun _ => s.attemptLost_flight
      · have hh := hear_firm src .alive (afterSlot_firm SlotMarks.none hl s.attemptLost_flight)
        exact hafter _ (fill_firm _ (ha _ (reserve_firm true hh) s.attemptLost_flight))

/-! ## Configuration -/

/-- A record is stored only before COMMIT (R123). -/
theorem configure_firm (checks : List (Bool × NakReason)) (store : Store → Store) (h : firm b s)
    (hc : (store s.store).committed = s.store.committed)
    (hr : firstFailing checks = none → ((store s.store).groups.map (·.number)).Nodup ∧
      ∀ r ∈ (store s.store).groups, ∀ a ∈ r.members, 1 ≤ a ∧ a ≤ 30) : (s.configure checks store).1.firm b := by
  unfold configure
  split
  · exact h
  · split
    · exact h
    · obtain ⟨hrec, hran⟩ := hr ‹_›
      obtain ⟨⟨-, -, groups, rolls, peers, others, fresh⟩, link⟩ := h
      refine ⟨⟨hrec, hran, groups, rolls, peers, others, fun hc' => ?_⟩, link.congr rfl rfl⟩
      obtain ⟨h1, h2, h3, h4, h5, h6⟩ := fresh (hc ▸ hc')
      exact ⟨h1, h2, h3, h4, h5, h6⟩

/-- The numbers of the GROUP records stay distinct: a record replaces that of its number or joins with a new one (R124). -/
theorem nodup_putGroup {r : GroupRecord} {rs : List GroupRecord} (h : (rs.map (·.number)).Nodup) :
    ((putGroup r rs).map (·.number)).Nodup := by
  unfold putGroup
  split
  · have hmap : (rs.map fun x => if x.number = r.number then r else x).map (·.number) = rs.map (·.number) := by
      rw [List.map_map]
      exact List.map_congr_left fun x _ => by
        simp only [Function.comp]
        split
        · exact Eq.symm ‹_›
        · rfl
    rwa [hmap]
  · rename_i hno
    have hno : ∀ x ∈ rs, x.number ≠ r.number := by simpa using hno
    rw [List.map_append, List.map_singleton, List.nodup_append]
    refine ⟨h, by simp, fun n hn k hk hnk => ?_⟩
    obtain ⟨x, hx, rfl⟩ := List.mem_map.mp hn
    exact hno x hx (hnk.trans (List.mem_singleton.mp hk))

/-- The members of a GROUP record that passes its checks are addresses of nodes (R124). -/
theorem groupChecks_ranges {g : Nat} {ms : List Nat} (h : firstFailing (s.groupChecks g ms) = none) :
    ∀ a ∈ ms, 1 ≤ a ∧ a ≤ 30 := by
  simp only [firstFailing_eq_none_iff, groupChecks, List.forall_mem_cons, Bool.not_eq_false', Bool.and_eq_true,
    List.all_eq_true] at h
  exact fun a ha => within_eq_true_iff.mp (h.1.1.2 a ha)

/-! ## COMMIT -/

theorem nodup_ascendingAddrs (ms : List Nat) : (ascendingAddrs ms).Nodup := List.nodup_range.filter _

/-- The Peer Table that COMMIT builds has one entry for each address, none for this node's own (R108, R131). -/
theorem peersOf_addr (self : Addr) (rs : List GroupRecord) :
    (peersOf self rs).map (·.addr) = (ascendingAddrs (rs.flatMap (·.members))).filter fun a => decide (a ≠ self) := by
  simp [peersOf, Function.comp_def]

/-- The tables that COMMIT builds from the stored records (R25, R108, R131). -/
theorem commitBuild_firm (h : firm b s) : firm b s.commitBuild := by
  obtain ⟨⟨records, ranges, -, -, -, -, -⟩, link⟩ := h
  have hg : s.commitBuild.groupIds = s.store.groups.map fun r => (r.number, ascendingAddrs r.members) := by
    simp only [groupIds, commitBuild, updMc_roll, updOut_roll, updLead_roll, updPeer_roll, updRoll_roll, List.map_map,
      Function.comp_def, GroupRecord.entry_members]
    rfl
  have hp : s.commitBuild.peerIds = (ascendingAddrs (s.store.groups.flatMap (·.members))).filter fun a => decide (a ≠ s.self) :=
    peersOf_addr s.self s.store.groups
  refine ⟨⟨records, ranges, ?_, ?_, ?_, ?_, nofun⟩, link.congr rfl rfl⟩
  · rw [hg, List.map_map]
    exact records
  · rw [hg]
    rintro x hx
    obtain ⟨r, -, rfl⟩ := List.mem_map.mp hx
    exact nodup_ascendingAddrs _
  · rw [hp]
    exact (nodup_ascendingAddrs _).filter _
  · rw [hp]
    show s.self ∉ _
    simp

theorem judgeInput_keepsTables (i : InputName) (c : Cause) (hs : s.mc.state = .idle ∨ s.mc.state = .held) :
    s.KeepsTables (s.judgeInput i c) ∧ (s.judgeInput i c).link = s.link ∧ (s.judgeInput i c).fq = s.fq := by
  unfold judgeInput
  split
  · exact ⟨{ fresh := fun h => absurd h.state (NodeState.of_idle_or_held hs).1 }, rfl, rfl⟩
  · exact ⟨.refl s, rfl, rfl⟩

/-- What COMMIT goes on with leaves the tables it has built (R98, R101, R131). -/
theorem commitEffect_firm (h : firm b s) : firm b s.commitEffect := by
  have h0 : s.commitBuild.mc.state = .idle ∨ s.commitBuild.mc.state = .held := .inl rfl
  have h1 := judgeInput_state .dalm .driveAlarm h0
  obtain ⟨hk1, hl1, hf1⟩ := judgeInput_keepsTables .dalm .driveAlarm h0
  obtain ⟨hk2, hl2, hf2⟩ := judgeInput_keepsTables .stopin .stopInput h1
  have hj := (commitBuild_firm h).of_keeps (hk1.trans hk2) (by rw [hf2, hf1]) (hl2.trans hl1)
  unfold commitEffect judgeBlocked
  split
  · exact hj.of_keeps (takeLink_keepsTables _) (linkCause_keepsFlight _).flight
  · exact hj

/-! ## Power-on and RESTART -/

/-- The tables of power-on are empty (R121, R134). -/
theorem tidy_of_powerOn {t : State} (hstore : t.store = Store.powerOn) (hroll : t.roll = RollUnit.powerOn)
    (hpeer : t.peer.peers = []) (hmc : t.mc = MoveCtl.powerOn) (hout : t.out.dren = false) : t.tidy := by
  have hg : t.groupIds = [] := by simp [groupIds, hroll, RollUnit.powerOn]
  have hp : t.peerIds = [] := by simp [peerIds, hpeer]
  refine ⟨?_, ?_, by simp [hg], by simp [hg], by simp [hp], by simp [hp], fun _ => ⟨?_, ?_, ?_, hout, ?_, hpeer⟩⟩
  all_goals simp [hstore, hroll, hmc, Store.powerOn, RollUnit.powerOn, MoveCtl.powerOn]

theorem restarted_firm (h : firm b s) : firm b s.restarted :=
  ⟨tidy_of_powerOn rfl rfl rfl rfl rfl, linked_of_still rfl h.link.listens h.link.bus h.link.blocked⟩

/-- RESET and power-on leave a sound node, and no BLOCKED link (R121, R146). -/
theorem powerOn_firm (hb : ¬b) (a : BitVec 5) (r : BitVec 2) (i : Inputs) (p : List Sys2Proof.Instr) :
    firm b (State.powerOn a r i p) :=
  ⟨tidy_of_powerOn rfl rfl rfl rfl rfl, linked_of_still rfl (by simp [powerOn, Link.powerOn]) nofun fun h => absurd h hb⟩

theorem underReset_firm (hb : ¬b) (s : State) : firm b s.underReset :=
  ⟨tidy_of_powerOn rfl rfl rfl rfl rfl,
    linked_of_still rfl (by simp [underReset, powerOn, Link.powerOn]) nofun fun h => absurd h hb⟩

/-! ## The requests of a configured node -/

/-- A change made by a configured node only. -/
theorem keepsTables_of_configured {t : State} (hs : s.mc.state ≠ .unconfigured) (store : t.store = s.store := by rfl)
    (link : t.link = s.link := by rfl) (peer : t.peer = s.peer := by rfl) (roll : t.roll = s.roll := by rfl) :
    s.KeepsTables t :=
  ⟨by rw [link], store, by rw [peerIds, peer, peerIds], by rw [groupIds, roll, groupIds], fun h => absurd h.state hs⟩

theorem loadAct_firm (src : Addr) (f : LoadFields) (h : firm b s) : (s.loadAct src f).1.firm b := by
  rw [loadAct_eq]
  split
  · exact h
  · rename_i hok
    split at hok
    · cases hok
    · rw [append_eq]
      exact h.of_keeps (keepsTables_of_configured ‹_›) rfl

theorem flushAct_firm (h : firm b s) : s.flushAct.1.firm b := by
  unfold flushAct
  split
  case h_2 hs | h_3 hs | h_4 hs => exact h.of_keeps (t := s.flushQueue) (keepsTables_of_configured (by simp [hs])) rfl rfl
  all_goals exact h

@[simp] theorem stopEffect_frame (k : HaltKind) (s : State) :
    (s.stopEffect k).link = s.link ∧ (s.stopEffect k).store = s.store ∧ (s.stopEffect k).peer = s.peer ∧
    (s.stopEffect k).roll.groups = s.roll.groups := by
  unfold stopEffect stopAnnounced
  repeat' split
  all_goals simp

theorem stopAct_firm (k : Nat) (h : firm b s) : (s.stopAct k).1.firm b := by
  unfold stopAct
  split
  · exact h
  · rename_i hs
    split
    · exact h
    · exact h.of_keeps { fresh := fun h => absurd h.state hs } (stopEffect_keepsFlight _ s).flight

theorem resumeAct_firm (h : firm b s) : s.resumeAct.1.firm b := by
  unfold resumeAct
  split
  · exact h
  · rename_i hs
    split
    · exact h
    · have hs : s.mc.state = .held := by simpa using hs
      exact h.of_keeps (t := s.resumed) (keepsTables_of_configured (by simp [hs])) rfl rfl

theorem setposAct_firm (v : Signed32) (h : firm b s) : (s.setposAct v).1.firm b := by
  unfold setposAct
  split
  · exact h.of_keeps (t := s.updLead fun l => { l with position := v.toInt }) .of_frame rfl rfl
  · exact h

theorem recap_keepsTables (s : State) : s.KeepsTables s.recap := .of_frame

theorem scaleAct_firm (p : Nat) (h : firm b s) : (s.scaleAct p).1.firm b := by
  have hl : s.KeepsTables (s.updLead fun l => { l with soloScale := p }) := .of_frame
  unfold scaleAct
  split
  · exact h
  · split
    · exact h
    · dsimp only
      split
      · exact h.of_keeps (hl.trans (recap_keepsTables _)) (by simp)
      · exact h.of_keeps hl rfl

/-! ## The frames of coordination -/

/-- What a frame of coordination sets going: its sender is heard, and the frame acts on the rolls, the marks or the head. -/
theorem takeHeard_firm (src : Addr) (k : Heard) (own : OutFrame → Bool) {act after : State → State} (h : firm b s)
    (hafter : ∀ u : State, firm b u → (after u).firm b) (ha : ∀ u : State, u.KeepsTables (act u))
    (hl : ∀ u : State, (act u).link = u.link) (hf : ∀ u : State, (act u).fq.inFlight = u.fq.inFlight) :
    firm b (s.takeFrom src own fun s => after (act (s.hear src k))) :=
  takeFrom_firm src own h fun _ hu => hafter _ ((hear_firm src k hu).of_keeps (ha _) (hf _) (hl _))

@[simp] theorem groupScaleTake_frame (g p : Nat) (s : State) :
    (s.groupScaleTake g p).link = s.link ∧ (s.groupScaleTake g p).fq = s.fq := by
  unfold groupScaleTake
  dsimp only
  repeat' split
  all_goals simp

/-! ## The events of the node's own -/

/-- The slot of a frame that asks this node for a reply passes (R156). -/
theorem slotPassed_firm (r : Bool) (h : firm b s) : firm b (s.slotPassed r) := by
  have hl : firm b (s.updLink fun l => { l with idleCount := 0, inFrame := true }) :=
    ⟨h.tables.of_keeps (updLink_keepsTables rfl),
      ⟨⟨h.link.active, h.link.listens, fun _ => Nat.zero_lt_succ _, h.link.blocked⟩, fun _ => rfl⟩⟩
  unfold slotPassed
  split
  · dsimp only
    split
    · exact reserve_firm true hl
    · exact hl
  · exact h

theorem afterStep_keeps (m : Move) (s : State) :
    s.fq.KeepsFlight (s.afterStep m).fq ∧ (s.afterStep m).link = s.link ∧ (s.afterStep m).store = s.store ∧
    (s.afterStep m).peer = s.peer ∧ (s.afterStep m).roll.groups = s.roll.groups := by
  have hr (o : RetireOutcome) (c : Option Cause) := (s.stopLead.retire_keepsReadies o c).toKeepsFlight
  unfold afterStep leadEnds decideNext
  split
  · split
    · exact ⟨hr _ _, by simp⟩
    · exact ⟨hr _ _, by simp⟩
  · split
    · exact ⟨hr _ _, by simp⟩
    · exact ⟨.refl _, by simp⟩

@[simp] theorem stepLine_peer (m : Move) (s : State) : (s.stepLine m).peer = s.peer := by
  unfold stepLine
  split <;> simp

theorem leadStep_firm (h : firm b s) : firm b s.leadStep := by
  unfold leadStep
  split
  · rename_i st m _ hm
    obtain ⟨-, -, hstore, hroll, hlink, hfq, -⟩ := s.stepLine_frame m
    dsimp only
    generalize hu : (((s.stepLine m).updLead fun l => l.stepped m st.kind).reach _) = u
    obtain ⟨hf, hl, hs, hp, hg⟩ := u.afterStep_keeps m
    have hflight : u.fq.inFlight = s.fq.inFlight := by
      rw [← hu, (reach_keepsRoom _ _).flight]
      simp [hfq]
    refine finish_firm (h.of_keeps ⟨?_, ?_, ?_, ?_, fun h => ?_⟩ (hf.flight.trans hflight) (hl.trans ?_))
    · rw [hl, ← hu]
      simp [hlink]
    · rw [hs, ← hu]
      simp [hstore]
    · rw [peerIds, hp, ← hu]
      simp [peerIds]
    · rw [groupIds, hg, ← hu]
      simp [groupIds, hroll]
    · simp [h.head] at hm
    · rw [← hu]
      simp [hlink]
  · exact h

theorem failAnnounced_firm (c : Cause) (h : firm b s) (ha : s.mc.state.announced = true) : firm b (s.failAnnounced c) := by
  refine h.of_keeps { fresh := fun h => ?_ } (s.failAnnounced_keepsFlight c).flight
  simp [h.state, NodeState.announced] at ha

theorem stopMove_firm (c : Cause) (d : Bool) (h : firm b s) (hm : s.mc.state.moving = true) : firm b (s.stopMove c d) := by
  refine h.of_keeps { fresh := fun h => ?_ } (s.stopMove_keepsReadies c d).flight
  simp [h.state, NodeState.moving] at hm

theorem rollExpires_firm (h : firm b s) : firm b s.rollExpires := by
  have hr : firm b (s.updRoll fun r => { r with timer := none }) := h.of_keeps .of_frame rfl
  unfold rollExpires
  split
  · exact h
  · dsimp only
    split
    · exact finish_firm (failAnnounced_firm _ hr ‹_›)
    · exact hr

theorem gateExpires_firm (h : firm b s) : firm b s.gateExpires := by
  have hg : firm b (s.updGate fun g => { g with timer := none }) := h.of_keeps .of_frame rfl
  unfold gateExpires
  split
  · exact h
  · dsimp only
    split
    · exact hg.of_keeps (t := (s.updGate _).updMc _) .of_frame rfl rfl
    · exact finish_firm (hg.of_keeps (retire_keepsTables _ _ _) (retire_keepsReadies _ _ _).flight)

theorem silenceExpires_firm (p : Addr) (h : firm b s) : firm b (s.silenceExpires p) := by
  unfold silenceExpires
  split
  · exact h
  · split
    · exact h
    · have hu : s.KeepsTables (s.updPeerEntry p fun x => { x with timer := none }) :=
        { peers := s.updPeerEntry_peerIds p fun _ => rfl
          fresh := fun hf => ⟨hf.state, hf.queue, hf.notices, hf.dren, hf.groups, by simp [updPeerEntry, hf.peers]⟩ }
      exact finish_firm (h.of_keeps (hu.trans (setPresence_keepsTables _ _ _)) (setPresence_keepsFlight _ _ _).flight)

theorem beaconExpires_firm (h : firm b s) : firm b s.beaconExpires := by
  have hr : firm b s.restartBeacon := h.of_keeps s.restartBeacon_keepsTables rfl
  have hq : firm b s.restartBeacon.queueBeacon := by
    unfold queueBeacon
    split
    · exact hr.of_keeps (updFq_keepsTables _ _) (FrameQueue.inFlight_push _ _)
    · exact hr
  unfold beaconExpires
  split
  · exact h
  · exact offer_firm hq

/-- The listen timer runs only on a LISTEN_ONLY link, which sends nothing and is not BLOCKED (R144, R146). -/
theorem listenExpires_firm (h : firm b s) : firm b s.listenExpires := by
  unfold listenExpires
  split
  · exact h
  · rename_i n hn
    have hs : s.link.state = .listenOnly := h.link.listens.mp (by simp [hn])
    have hf : s.fq.inFlight = [] := by
      by_contra hf
      simp [h.link.active hf] at hs
    refine finish_firm ⟨h.tables.of_keeps ?_, linked_of_still hf (by simp) h.link.bus fun hb => ?_⟩
    · have hl := updLink_keepsTables (f := fun l => { l with state := .active, listenTimer := none }) (s := s) rfl
      refine hl.trans { fresh := fun h => ⟨h.state, h.queue, ?_, h.dren, h.groups, h.peers⟩ }
      simpa [releaseDeferred] using h.notices
    · simp [h.link.blocked hb] at hs

/-! ## The bus -/

/-- The bus becomes idle with no frame in progress; a node with an address leaves OFFLINE for ACTIVE (R136, R146). -/
theorem idle_firm (h : firm b s) : firm b s.idle := by
  unfold idle
  split
  · exact h
  · rename_i hno
    obtain ⟨-, hfr⟩ := not_or.mp hno
    have hf : s.fq.inFlight = [] := by
      by_contra hf
      exact hfr (h.link.framed hf)
    have hl : firm b (s.updLink fun l => { l with idleCount := Config.idleBits }) :=
      ⟨h.tables.of_keeps (updLink_keepsTables rfl),
        linked_of_still hf h.link.listens (fun hh => absurd hh hfr) h.link.blocked⟩
    refine offer_firm ?_
    unfold leaveOffline
    split
    · rename_i ho
      have ho : s.link.state = .offline := ho.1
      have hlis := h.link.listens
      refine ⟨(hl.tables.of_keeps (updLink_keepsTables rfl)).of_keeps (restartBeacon_keepsTables _),
        linked_of_still hf ?_ (fun hh => absurd hh hfr) fun hb => ?_⟩
      · simpa [ho] using hlis
      · simp [h.link.blocked hb] at ho
    · exact hl

theorem dominantBit_firm (h : firm b s) : firm b s.dominantBit := by
  unfold dominantBit
  split
  · exact h
  · have hlink {f : Link → Link} (ha : (f s.link).addr = s.link.addr) (hs : (f s.link).state = s.link.state)
        (ht : (f s.link).listenTimer = s.link.listenTimer) (hi : (f s.link).idleCount = 0)
        (hfr : s.link.inFrame = true → (f s.link).inFrame = true) : firm b (s.updLink f) := by
      refine ⟨h.tables.of_keeps (updLink_keepsTables ha), ⟨⟨?_, ?_, ?_, ?_⟩, fun hf => hfr (h.link.framed hf)⟩⟩
      · simpa [hs] using h.link.active
      · simpa [hs, ht] using h.link.listens
      · simp [hi]
      · simpa [hs] using h.link.blocked
    split
    · exact hlink rfl rfl rfl rfl id
    · exact hlink rfl rfl rfl rfl fun _ => rfl

/-! ## The inputs -/

theorem assertion_firm (i : InputName) {deliver : State → State} (h : firm b s)
    (hd : ∀ u : State, firm b u → (deliver u).firm b) : firm b (s.assertion i deliver) := by
  have hr : firm b (s.register i (s.activeLevel i)) := h.of_keeps .of_frame (by simp)
  unfold assertion
  split
  · exact h
  · split
    · exact hr
    · exact hd _ hr

theorem limitDelivered_firm (side : LimitSide) (h : firm b s) : firm b (s.limitDelivered side) := by
  unfold limitDelivered
  split
  · split
    · split
      · exact finish_firm (failAnnounced_firm _ h ‹_›)
      · split
        · exact finish_firm (stopMove_firm _ _ h ‹_›)
        · exact h
    · exact h
  · exact h

theorem localStop_keeps (c : Cause) (s : State) :
    s.fq.KeepsFlight (s.localStop c).fq ∧ (s.localStop c).link = s.link ∧ (s.localStop c).store = s.store ∧
    (s.localStop c).peer = s.peer ∧ (s.localStop c).roll.groups = s.roll.groups := by
  unfold localStop
  split
  case h_4 | h_5 => exact ⟨s.failAnnounced_keepsFlight c, by simp⟩
  case h_6 | h_7 => exact ⟨(s.stopMove_keepsReadies c false).toKeepsFlight, by simp⟩
  all_goals exact ⟨.refl _, by simp⟩

theorem driveStop_firm (c : Cause) (h : firm b s) : firm b (s.driveStop c) := by
  unfold driveStop
  split
  · exact h
  · rename_i hs
    obtain ⟨hf, hl, hst, hp, hg⟩ := (s.updOut fun o => { o with dren := false }).localStop_keeps c
    exact finish_firm (h.of_keeps ⟨by rw [hl]; rfl, hst, by rw [peerIds, hp]; rfl, by rw [groupIds, hg]; rfl,
      fun h => absurd h.state hs⟩ hf.flight hl)

theorem homeDelivered_firm (h : firm b s) : firm b s.homeDelivered := by
  unfold homeDelivered
  split
  · rename_i m hm
    split
    · refine finish_firm (h.of_keeps { fresh := fun h => ?_ } s.completeSeek_keepsReadies.flight)
      simp [h.head] at hm
    · exact h
  · exact h

theorem ownRejected_firm (m : SlotMarks) (h : firm b s) : firm b (s.ownRejected m) := by
  unfold ownRejected
  split
  · exact h
  · exact slotRejects_firm m h nofun

theorem ownBusy_firm (h : firm b s) : firm b s.ownBusy := by
  unfold ownBusy
  split
  · exact h
  · refine finish_firm ⟨h.tables.of_keeps ?_, attemptBusy_linked (unreserved_wired (afterSlot_wired _ h.link.towired))⟩
    exact ((s.afterSlot_keepsTables _).trans (unreserved_keepsTables _)).trans (attemptBusy_keepsTables _)

end State

end Sys2Proof.Machine
end

section
/-! Every command keeps the configuration, the tables and the link sound, and a BLOCKED link stays BLOCKED until RESET or
power-on (R25, R108, R122 to R124, R136, R137, R144, R146, R147). -/

-- One proof after another: elaborated side by side they need more threads than the check allows.
set_option deprecated.oldSectionVars true

namespace Sys2Proof.Machine

/-- RESET and POWER_ON, at which the link leaves whatever state it had (R121, R146). -/
def resets : Sys2Proof.Instr → Bool
  | .resetAsserted => true
  | .powerOn _ _ => true
  | _ => false

namespace State

variable {b : Prop} {s t : State}

theorem doConfigGroup_firm (src num g : Nat) (ms : List Nat) (h : firm b s) : (doConfigGroup src num g ms s).firm b := by
  refine request_firm src num .config h (fun _ => offer_firm) fun u hu _ =>
    configure_firm _ (fun c => { c with groups := putGroup { number := g, members := ms } c.groups }) hu rfl fun hok => ?_
  refine ⟨nodup_putGroup hu.tables.records, fun r hr => ?_⟩
  rcases mem_putGroup hr with rfl | hr
  · exact groupChecks_ranges hok
  · exact hu.tables.ranges r hr

/-- A CONFIG request of a record other than GROUP. -/
theorem config_firm_of_groups (src num : Nat) (checks : State → List (Bool × NakReason)) (store : Store → Store)
    (hc : ∀ c, (store c).committed = c.committed) (hg : ∀ c, (store c).groups = c.groups) (h : firm b s) :
    (s.request src num .config (fun s => s.configure (checks s) store) offer).firm b :=
  request_firm src num .config h (fun _ => offer_firm) fun u hu _ =>
    configure_firm _ store hu (hc _) fun _ => by
      rw [hg]
      exact ⟨hu.tables.records, hu.tables.ranges⟩

theorem doCommit_firm (src num : Nat) (h : firm b s) : (doCommit src num s).firm b := by
  refine request_firm src num .commit h (fun _ => offer_firm) fun u hu _ => ?_
  split
  · exact hu
  · exact commitEffect_firm hu

theorem doRestart_firm (src num : Nat) (h : firm b s) : (doRestart src num s).firm b := by
  refine request_firm src num .restart h (fun _ => offer_firm) fun u hu _ => ?_
  split
  · exact restarted_firm hu
  · exact hu

/-- Every command but those that are told with a frame's bits keeps the tables and the link sound. -/
theorem exec_firm_of_not_bits {c : Sys2Proof.Instr} (hb : readsBits c = false) (hr : b → resets c = false) (h : firm b s)
    (he : exec c s = .next t) : firm b t := by
  cases c <;> cases he
  case configGroup => exact doConfigGroup_firm _ _ _ _ h
  case configProfile =>
    exact config_firm_of_groups _ _ (fun _ => _) _ (fun c => (putRamp_keeps ..).1) (fun c => (putRamp_keeps ..).2) h
  case configProfileTablePart => exact config_firm_of_groups _ _ (fun _ => _) _ (fun _ => rfl) (fun _ => rfl) h
  case configLimits | configTiming | configInputs =>
    exact config_firm_of_groups _ _ (fun _ => _) _ (fun _ => rfl) (fun _ => rfl) h
  case commit => exact doCommit_firm _ _ h
  case restart => exact doRestart_firm _ _ h
  case load => exact request_firm _ _ _ h (fun _ => finish_firm) fun _ hu _ => loadAct_firm _ _ hu
  case flush => exact request_firm _ _ _ h (fun _ => offer_firm) fun _ hu _ => flushAct_firm hu
  case stop => exact request_firm _ _ _ h (fun _ => finish_firm) fun _ hu _ => stopAct_firm _ hu
  case resume => exact request_firm _ _ _ h (fun _ => finish_firm) fun _ hu _ => resumeAct_firm hu
  case setpos => exact request_firm _ _ _ h (fun _ => offer_firm) fun _ hu _ => setposAct_firm _ hu
  case scale => exact request_firm _ _ _ h (fun _ => offer_firm) fun _ hu _ => scaleAct_firm _ hu
  case queryNode => exact request_firm _ _ _ h (fun _ => offer_firm) fun _ hu _ => hu
  case queryGroup =>
    exact request_firm _ _ _ h (fun _ => offer_firm) fun u hu _ => (u.queryGroupAct_fst _ _).symm ▸ hu
  case queryQueue => exact request_firm _ _ _ h (fun _ => offer_firm) fun u hu _ => (u.queryQueueAct_fst _).symm ▸ hu
  case readyTaken =>
    exact takeHeard_firm _ _ _ h (fun _ => finish_firm) (readyTake_keepsTables _ _ _) (fun u => (u.readyTake_frame _ _ _).1)
      fun u => (u.readyTake_keepsFlight _ _ _).flight
  case withdrawTaken =>
    exact takeHeard_firm _ _ _ h (fun _ => finish_firm) (withdrawTake_keepsTables _ _ _)
      (fun u => (u.withdrawTake_frame _ _ _).1) fun u => (u.withdrawTake_keepsFlight _ _ _).flight
  case haltTaken =>
    exact takeHeard_firm _ _ _ h (fun _ => finish_firm) (haltTake_keepsTables _ _ _) (fun u => (u.haltTake_frame _ _ _).1)
      fun u => (u.haltTake_keepsFlight _ _ _).flight
  case markTaken =>
    exact takeHeard_firm _ _ _ h (fun _ => finish_firm) (markTake_keepsTables _ _ _ _) (fun u => (u.markTake_frame _ _ _ _).1)
      fun u => by rw [(u.markTake_frame _ _ _ _).2.1]
  case beaconTaken => exact takeFrom_firm _ _ h fun _ hu => finish_firm (hear_firm _ _ hu)
  case groupScaleTaken =>
    exact takeHeard_firm _ _ _ h (fun _ => offer_firm) (groupScaleTake_keepsTables _ _) (fun u => (u.groupScaleTake_frame _ _).1)
      fun u => by rw [(u.groupScaleTake_frame _ _).2]
  case replyFrameTaken => exact takeFrom_firm _ _ h fun _ hu => offer_firm (hear_firm _ _ hu)
  case malformedFrameTaken | frameRejectedInSlot => cases hb
  case ownFrameTaken => exact ownTaken_firm h
  case lostInArbitration => exact attemptLost_firm h
  case rejected | discarded => exact ownRejected_firm _ h
  case refusedAsBusy | dropped => exact ownBusy_firm h
  case busIdle => exact idle_firm h
  case leadStep => exact leadStep_firm (slotPassed_firm _ h)
  case rollTimeout => exact rollExpires_firm (slotPassed_firm _ h)
  case gateWaitTimerExpires => exact gateExpires_firm (slotPassed_firm _ h)
  case silenceTimerExpires => exact silenceExpires_firm _ (slotPassed_firm _ h)
  case beaconTimerExpires => exact beaconExpires_firm h
  case listenTimerExpires => exact listenExpires_firm h
  case limitAsserted => exact assertion_firm _ (slotPassed_firm _ h) fun _ => limitDelivered_firm _
  case dalmAsserted | stopinAsserted => exact assertion_firm _ (slotPassed_firm _ h) fun _ => driveStop_firm _
  case homeAsserted => exact assertion_firm _ (slotPassed_firm _ h) fun _ => homeDelivered_firm
  case inputChangeInactive =>
    unfold inactive
    split
    · exact h
    · exact h.of_keeps .of_frame (by simp)
  case resetAsserted => exact underReset_firm (fun hb' => absurd (hr hb') nofun) s
  case powerOn => exact powerOn_firm (fun hb' => absurd (hr hb') nofun) _ _ _ _
  case lineLevelChange =>
    unfold lineChange
    split
    · exact h
    · exact h.of_keeps (t := s.updInp _) .of_frame rfl rfl
  case dominantBitOutsideFrame => exact dominantBit_firm h

/-! ## A frame read from the bus -/

theorem malformed_firm (r : Sys2Proof.RawFrame) (h : firm b s) : firm b (s.malformed r) := by
  have hh := hear_firm r.source.toNat .alive h
  unfold malformed
  dsimp only
  split
  · exact fill_firm _ (reserve_firm true hh)
  · exact hh

/-- A frame that this node does not mark goes the way of what it reads as, which is no RESET or power-on (R142, R149). -/
theorem takeReading_firm (r : Sys2Proof.RawFrame) (h : firm b s) : firm b (s.takeReading r) := by
  unfold takeReading
  split
  · exact takeHeld_firm _ _ h fun _ hu => released_firm (malformed_firm r hu)
  · exact config_firm_of_groups _ _ (fun _ => _) _ (fun _ => rfl) (fun _ => rfl) h
  · exact request_firm _ _ _ h (fun _ => offer_firm) fun _ hu _ => hu
  · rename_i i _
    suffices hx : ∀ u, u = s ∨ (readsBits i = false ∧ resets i = false ∧ exec i s = .next u) → firm b u by
      refine hx _ ?_
      split
      case h_25 => exact .inl rfl
      all_goals exact .inr ⟨rfl, rfl, rfl⟩
    rintro u (rfl | ⟨hbits, hr, he⟩)
    · exact h
    · exact exec_firm_of_not_bits hbits (fun _ => hr) h he

theorem receive_firm (r : Sys2Proof.RawFrame) (h : firm b s) : firm b (s.receive r) := by
  have hread {u : State} {own : Bool} (hu : firm b u) (hs : own = false → u.fq.inFlight = []) :
      firm b (if u.slotMark r = SlotMarks.none then u.takeReading r else u.slotRejects own (u.slotMark r)) := by
    split
    · exact takeReading_firm r hu
    · exact slotRejects_firm _ hu hs
  unfold receive
  split
  · exact afterSlot_firm _ h (h.still_of_offline ‹_›)
  · split
    · exact ownTaken_firm h
    · by_cases hsrc : r.source.toNat = s.self
      · simp only [hsrc, decide_true, if_true]
        exact hread h nofun
      · simp only [hsrc, decide_false, Bool.false_eq_true, if_false]
        exact hread (attemptLost_firm h) fun _ => s.attemptLost_flight

theorem rejectedInSlot_firm (r : Sys2Proof.RawFrame) (h : firm b s) : firm b (s.rejectedInSlot r) := by
  unfold rejectedInSlot
  split
  · exact afterSlot_firm _ h (h.still_of_offline ‹_›)
  · by_cases hsrc : r.source.toNat = s.self
    · simp only [hsrc, decide_true, if_true]
      exact slotRejects_firm _ h nofun
    · simp only [hsrc, decide_false, Bool.false_eq_true, if_false]
      exact slotRejects_firm _ (attemptLost_firm h) fun _ => s.attemptLost_flight

/-- Every command keeps the tables and the link sound. -/
theorem exec_firm {c : Sys2Proof.Instr} (hr : b → resets c = false) (h : firm b s) (he : exec c s = .next t) : firm b t := by
  cases hb : readsBits c with
  | false => exact exec_firm_of_not_bits hb hr h he
  | true =>
    cases c
    case malformedFrameTaken r =>
      cases he
      exact receive_firm r h
    case frameRejectedInSlot r =>
      cases he
      exact rejectedInSlot_firm r h
    all_goals cases hb

/-! ## The invariants read from it -/

theorem inFlight_eq_nil_iff (s : State) : s.fq.inFlight ≠ [] ↔ s.fq.sending ≠ none :=
  not_congr s.fq.sending_eq_none_iff.symm

/-- The node between two commands has sound tables and a sound link. -/
theorem ok.firm {b : Prop} {s : State} (h : s.ok) (hb : b → s.link.state = .blocked) : firm b s := by
  obtain ⟨records, members, groups, rolls, peers, others, -⟩ := h.tables
  obtain ⟨hactive, hlistens, -, hframed, hbus⟩ := h.link
  have hids : s.groupIds.map (·.1) = s.roll.groups.map (·.number) := by simp [groupIds]
  refine ⟨⟨records, fun r hr => (members r hr).2, hids ▸ groups, ?_, peers, ?_, fun hc => ?_⟩,
    ⟨⟨fun hf => ?_, hlistens, hbus, hb⟩, fun hf => hframed (s.inFlight_eq_nil_iff.mp hf)⟩⟩
  · rintro x hx
    obtain ⟨e, he, rfl⟩ := List.mem_map.mp hx
    exact (rolls e he).2
  · intro hmem
    obtain ⟨e, he, hs⟩ := List.mem_map.mp hmem
    exact others e he hs
  · have hu : s.mc.state = .unconfigured := by
      by_contra hu
      simp [h.config.1.mpr hu] at hc
    obtain ⟨hg, -, hp, hn, hd⟩ := h.config.2 hu
    have hq := h.causes.1
    rw [hu] at hq
    exact ⟨hu, hq.1, hn, hd, hg, hp⟩
  · by_contra ha
    exact s.inFlight_eq_nil_iff.mp hf (hactive ha)

/-- No record is left of the marks while no entry is queued (R51). -/
theorem mid.marks_of_empty {s : State} (h : s.mid) (hq : s.mc.queue = []) : s.gate.marks = [] := by
  have hu : s.unstarted = [] := by simp [unstarted, hq]
  refine List.eq_nil_iff_forall_not_mem.mpr fun r hr => ?_
  simpa [hu, namedBy] using h.marks.2.2.1 r hr

theorem firm.configOk {b : Prop} {s : State} (h : firm b s) (hm : s.mid) : s.configOk := by
  refine ⟨hm.committed, fun hu => ?_⟩
  have hc : s.store.committed = false := by
    by_contra hc
    exact hm.committed.mp (by simpa using hc) hu
  have hf := h.tables.fresh hc
  exact ⟨hf.groups, hm.marks_of_empty hf.queue, hf.peers, hf.notices, hf.dren⟩

theorem firm.tablesOk {b : Prop} {s : State} (h : firm b s) (hm : s.mid) : s.tablesOk := by
  obtain ⟨⟨records, ranges, groups, rolls, peers, others, -⟩, -⟩ := h
  obtain ⟨hrec, hgrp, hq⟩ := hm.members
  have hids : s.groupIds.map (·.1) = s.roll.groups.map (·.number) := by simp [groupIds]
  exact ⟨records, fun r hr => ⟨(hrec r hr).1, ranges r hr⟩, hids ▸ groups,
    fun e he => ⟨hgrp e he, rolls _ (List.mem_map_of_mem he)⟩, peers,
    fun e he hs => others (List.mem_map.mpr ⟨e, he, hs⟩), hq⟩

theorem firm.linkOk {b : Prop} {s : State} (h : firm b s) (hm : s.mid) : s.linkOk := by
  refine ⟨fun ha => ?_, h.link.listens, ?_, fun hs => h.link.framed (s.inFlight_eq_nil_iff.mpr hs), h.link.bus⟩
  · by_contra hs
    exact ha (h.link.active (s.inFlight_eq_nil_iff.mpr hs))
  · rw [List.countP_eq_length_filter]
    exact hm.flight

end State

/-- Settles O58: the tables and the link are kept by every command, the link BLOCKED if it was and no RESET or power-on came. -/
theorem configurationAndLinkKept : Obligations.ConfigurationAndLinkKept := by
  intro c s t h he
  have ht := exec_mid h.mid he
  have hf := State.exec_firm (b := s.link.state = .blocked ∧ resets c = false) And.right (h.firm And.left) he
  refine ⟨hf.configOk ht, hf.tablesOk ht, hf.linkOk ht, fun hs hr hp => hf.link.blocked ⟨hs, ?_⟩⟩
  cases c
  case resetAsserted => exact absurd rfl hr
  case powerOn a r => exact absurd rfl (hp a r)
  all_goals rfl

end Sys2Proof.Machine
end

section
/-! SUPPORT. The node after its head has ended for a cause: the frames that joined the Frame Queue, and what the end of the
event leaves of a HELD node (R17 to R22, R41, R94, R137, R155). -/

-- One proof after another: elaborated side by side they need more threads than the check allows.
set_option deprecated.oldSectionVars true

namespace Sys2Proof.Machine

/-! ## Frames that join the queue -/

/-- Entries have joined the queue at its end, all of frames that satisfy `p` (R150). -/
def FrameQueue.Joined (p : OutFrame → Prop) (q r : FrameQueue) : Prop :=
  ∃ es, r.entries = q.entries ++ es ∧ ∀ e ∈ es, p e.frame

namespace FrameQueue

variable {p : OutFrame → Prop} {q r t : FrameQueue}

theorem Joined.refl (q : FrameQueue) : q.Joined p q := ⟨[], by simp, by simp⟩

theorem Joined.trans (h : q.Joined p r) (h' : r.Joined p t) : q.Joined p t := by
  obtain ⟨es, he, hp⟩ := h
  obtain ⟨es', he', hp'⟩ := h'
  refine ⟨es ++ es', by rw [he', he, List.append_assoc], fun e hm => ?_⟩
  rcases List.mem_append.mp hm with hm | hm
  · exact hp e hm
  · exact hp' e hm

theorem joined_push {f : OutFrame} (q : FrameQueue) (h : p f) : q.Joined p (q.push f) := ⟨[_], rfl, by simpa using h⟩

theorem Joined.mem {e : Entry} (h : q.Joined p r) (he : e ∈ q.entries) : e ∈ r.entries := by
  obtain ⟨es, hr, -⟩ := h
  exact hr ▸ List.mem_append_left es he

/-- An entry of the longer queue is an old one or has a frame that satisfies `p`. -/
theorem Joined.mem_or {e : Entry} (h : q.Joined p r) (he : e ∈ r.entries) : e ∈ q.entries ∨ p e.frame := by
  obtain ⟨es, hr, hp⟩ := h
  exact (List.mem_append.mp (hr ▸ he)).imp_right (hp e)

end FrameQueue

/-- The frames that the end of a head with cause `c`, and the end of the event, can queue: a REPORT, the WITHDRAW of a cause
other than PEER_WITHDREW, MARKs and HALTs (R18, R21, R94). -/
def endFrame (c : Option Cause) : OutFrame → Prop
  | .report .. => True
  | .withdraw _ _ k => c = some k ∧ k ≠ .peerWithdrew
  | .mark .. => True
  | .halt .. => True
  | _ => False

theorem State.queueSync_joined {p : OutFrame → Prop} {f : OutFrame} (h : p f) (s : State) :
    s.fq.Joined p (s.queueSync f).fq := by
  unfold State.queueSync
  split
  · exact s.fq.joined_push h
  · exact .refl _

theorem State.report_joined (w : WaitingRecord) (c : Option Cause) (s : State) :
    s.fq.Joined (endFrame c) (s.report w).fq := by
  unfold State.report
  split
  · exact s.fq.joined_push trivial
  · exact .refl _

theorem State.withdraw_joined (m : Move) (o : RetireOutcome) (c : Option Cause) (s : State) :
    s.fq.Joined (endFrame c) (s.withdraw m o c).fq := by
  unfold State.withdraw
  split
  · split
    · exact .refl _
    · exact State.queueSync_joined ⟨rfl, ‹_›⟩ s
  · exact .refl _

theorem State.voidAll_joined (t : Tag) (ms : List Marker) (c : Option Cause) (s : State) :
    s.fq.Joined (endFrame c) (s.voidAll t ms).fq := by
  induction ms generalizing s with
  | nil => exact .refl _
  | cons m ms ih => exact (State.queueSync_joined (f := .mark t m.number .void) trivial s).trans (ih _)

/-- The Frame Queue after a retirement: the REPORT, the WITHDRAW and the MARK VOID frames, in that order (R18, R21). -/
theorem State.retire_fq {s : State} {m : Move} {rest : List Move} (hq : s.mc.queue = m :: rest) (o : RetireOutcome)
    (c : Option Cause) :
    (s.retire o c).fq = (((s.report { origin := m.origin, record := s.recordOf m o c }).withdraw m o c).voidAll m.tag
      (ascending (s.unreachedOf m))).fq := by
  unfold State.retire
  rw [hq]
  rfl

theorem State.retire_joined (o : RetireOutcome) (c : Option Cause) (s : State) :
    s.fq.Joined (endFrame c) (s.retire o c).fq := by
  cases hq : s.mc.queue with
  | nil =>
    rw [State.retire, hq]
    exact .refl _
  | cons m rest =>
    rw [State.retire_fq hq]
    exact ((s.report_joined _ c).trans (State.withdraw_joined m o c _)).trans (State.voidAll_joined _ _ c _)

/-- A retirement with a REPLY entry free queues its REPORT (R18). -/
theorem State.retire_holds_report {s : State} {m : Move} {rest : List Move} (hq : s.mc.queue = m :: rest)
    (hf : 0 < s.fq.free) (o : RetireOutcome) (c : Option Cause) :
    (s.retire o c).holdsFrame (.report m.origin (s.recordOf m o c)) := by
  rw [State.holdsFrame, State.retire_fq hq]
  refine ⟨{ frame := .report m.origin (s.recordOf m o c), status := .queued, busy := 0 },
    ((State.withdraw_joined m o c _).trans (State.voidAll_joined _ _ c _)).mem ?_, rfl⟩
  simp [State.report, hf, FrameQueue.push]

/-- A retirement with a REPLY entry free has its record wait for nothing, and one without leaves it waiting (R18). -/
theorem State.retire_record {s : State} {m : Move} {rest : List Move} (hq : s.mc.queue = m :: rest) (o : RetireOutcome)
    (c : Option Cause) :
    (s.retire o c).mc.record =
      if 0 < s.fq.free then s.mc.record else some { origin := m.origin, record := s.recordOf m o c } := by
  have h : (s.retire o c).mc.record = (s.report { origin := m.origin, record := s.recordOf m o c }).mc.record := by
    unfold State.retire
    rw [hq]
    simp
  rw [h, State.report]
  split <;> simp

/-- A FAILED group move with room in the SYNC share queues its WITHDRAW (R21). -/
theorem State.retire_holds_withdraw {s : State} {m : Move} {rest : List Move} {g : GroupNo} {c : Cause}
    (hq : s.mc.queue = m :: rest) (hg : m.group = some g) (hc : c ≠ .peerWithdrew) (hs : s.fq.count .sync < 6) :
    (s.retire .failed (some c)).holdsFrame (.withdraw g m.tag c) := by
  have hcount (w : WaitingRecord) : (s.report w).fq.count .sync < 6 := by
    unfold State.report
    split
    · simpa [OutFrame.cls] using hs
    · exact hs
  rw [State.holdsFrame, State.retire_fq hq]
  refine ⟨{ frame := .withdraw g m.tag c, status := .queued, busy := 0 },
    (State.voidAll_joined _ _ (some c) _).mem ?_, rfl⟩
  simp [State.withdraw, hg, hc, State.queueSync_of_room _ (hcount _), FrameQueue.pushAll]

/-! ## The end of an event on a HELD node -/

@[simp] theorem holdsCause_withCause (cs : CauseSet) (c : Cause) : holdsCause (withCause cs c) c = true := by
  have hc : causeCode c - 1 < 16 := by cases c <;> decide
  simp [holdsCause, withCause, hc]

theorem holdsCause_withCause_of_holds {cs : CauseSet} {c : Cause} (h : holdsCause cs c = true) (d : Cause) :
    holdsCause (withCause cs d) c = true := by
  unfold holdsCause at h
  simp [holdsCause, withCause, h]

/-- Nothing is armed on a HELD node: the LINK cause due joins the set, the URGENT share is filled, and a frame is offered
(R12, R94, R101, R152, R155). -/
theorem State.finish_of_held {s : State} (h : s.mc.state = .held) : s.finish = s.giveLink.fillUrgent.offer := by
  have hg : s.giveLink.mc.state = .held := by
    unfold State.giveLink State.takeLink State.linkCause
    split <;> simp [h]
  have hs (n : Nat) : s.settle n = s.giveLink := by
    cases n with
    | zero => rfl
    | succ n => simp [State.settle, hg]
  rw [State.finish, hs]

theorem State.giveLink_of_held {s : State} (h : s.mc.state = .held) :
    s.giveLink = s ∨ s.giveLink = (s.addCause .link).updMc fun m => { m with linkDue := false } := by
  unfold State.giveLink State.takeLink State.linkCause
  rw [h]
  split
  · exact .inr rfl
  · exact .inl rfl

/-- What the end of an event leaves of a HELD node (R22, R101, R155). -/
theorem State.finish_frame_of_held {s : State} (h : s.mc.state = .held) :
    s.finish.mc.state = .held ∧ s.finish.mc.queue = s.mc.queue ∧ s.finish.mc.record = s.mc.record ∧
    s.finish.roll = s.roll ∧ s.finish.lead = s.lead ∧ s.finish.out = s.out ∧
    ∀ c, holdsCause s.mc.causes c = true → holdsCause s.finish.mc.causes c = true := by
  rw [State.finish_of_held h]
  rcases State.giveLink_of_held h with he | he
  · simp [he, h]
  · simp only [he, State.offer_frame, State.fillUrgent_frame, State.updMc_mc, State.updMc_roll, State.updMc_lead,
      State.updMc_out, State.addCause_frame, h, true_and]
    exact fun c hc => holdsCause_withCause_of_holds hc _

theorem State.fillUrgent_joined (c : Option Cause) (s : State) : s.fq.Joined (endFrame c) s.fillUrgent.fq := by
  rcases s.fillUrgent_cases with ⟨he, -⟩ | ⟨n, -, -, he⟩
  · rw [he]
    exact .refl _
  · rw [he]
    exact s.fq.joined_push trivial

theorem State.fillUrgent_joined_of_held {s : State} (h : s.mc.state = .held) (c : Option Cause) :
    s.fq.Joined (endFrame c) s.giveLink.fillUrgent.fq := by
  have hg : s.giveLink.fq = s.fq := by
    rcases State.giveLink_of_held h with he | he <;> rw [he]
    rfl
  exact hg ▸ s.giveLink.fillUrgent_joined c

/-- On a bus that is not idle the end of an event queues no frame but a HALT (R94, R137). -/
theorem State.finish_joined_of_held {s : State} (h : s.mc.state = .held) (hi : s.link.idleCount ≠ 12) (c : Option Cause) :
    s.fq.Joined (endFrame c) s.finish.fq := by
  rw [State.finish_of_held h, State.offer_of_not_idle (by simpa using hi)]
  exact State.fillUrgent_joined_of_held h c

/-- An offer changes the contents of no frame but a BEACON (R118, R137). -/
theorem mem_beginOldest {k : FrameClass} {st : NodeState} {d : Nat} {es : List Entry} {f : OutFrame} (hf : f.cls ≠ .beacon)
    (h : ∃ e ∈ es, e.frame = f) : ∃ e ∈ beginOldest k st d es, e.frame = f := by
  have hr : f.refreshed st d = f := by cases f <;> simp_all [OutFrame.refreshed, OutFrame.cls]
  induction es with
  | nil => exact h
  | cons x es ih =>
    obtain ⟨e, he, rfl⟩ := h
    unfold beginOldest
    rcases List.mem_cons.mp he with rfl | he
    · split
      · exact ⟨_, List.mem_cons_self, hr⟩
      · exact ⟨e, List.mem_cons_self, rfl⟩
    · split
      · exact ⟨e, List.mem_cons_of_mem _ he, rfl⟩
      · obtain ⟨y, hy, hyf⟩ := ih ⟨e, he, rfl⟩
        exact ⟨y, List.mem_cons_of_mem _ hy, hyf⟩

theorem State.offer_holdsFrame {s : State} {f : OutFrame} (hf : f.cls ≠ .beacon) (h : s.holdsFrame f) : s.offer.holdsFrame f := by
  rcases s.offer_cases with ⟨he, -⟩ | ⟨k, -, -, -, -, he⟩
  · rwa [he]
  · rw [he]
    exact mem_beginOldest hf h

theorem State.finish_holdsFrame_of_held {s : State} (hs : s.mc.state = .held) {f : OutFrame} (hf : f.cls ≠ .beacon)
    (h : s.holdsFrame f) : s.finish.holdsFrame f := by
  obtain ⟨e, he, hfe⟩ := h
  rw [State.finish_of_held hs]
  exact State.offer_holdsFrame hf ⟨e, (State.fillUrgent_joined_of_held hs none).mem he, hfe⟩

/-! ## A head that ends for a cause -/

/-- The node after its head has ended for a cause and the event is over: HELD for the cause, the queue behind the head kept
(R20, R22). -/
theorem State.retire_finish {s : State} {m : Move} {rest : List Move} (hq : s.mc.queue = m :: rest) (o : RetireOutcome)
    (c : Cause) :
    (s.retire o (some c)).finish.mc.state = .held ∧ holdsCause (s.retire o (some c)).finish.mc.causes c = true ∧
    (s.retire o (some c)).finish.mc.queue = rest ∧
    (s.retire o (some c)).finish.roll = { s.roll with timer := none } ∧
    (s.retire o (some c)).finish.lead = s.lead ∧ (s.retire o (some c)).finish.out = s.out ∧
    (s.retire o (some c)).finish.mc.record = (s.retire o (some c)).mc.record := by
  obtain ⟨hst, hqu, hrec, hroll, hlead, hout, hcs⟩ := State.finish_frame_of_held (s.retire_held hq o c)
  have hr : (s.retire o (some c)).roll = { s.roll with timer := none } := by
    unfold State.retire
    rw [hq]
    simp
  refine ⟨hst, hcs c ?_, ?_, hroll.trans hr, hlead.trans (by simp), hout.trans (by simp), hrec⟩
  · rw [(State.retire_fields hq o _).2.1]
    exact holdsCause_withCause _ _
  · rw [hqu, State.retire_queue, hq, List.tail_cons]

/-- The frames of a head that ends for a cause stand in the Frame Queue when the event is over (R18, R21). -/
theorem State.retire_finish_holds {s : State} {m : Move} {rest : List Move} (hq : s.mc.queue = m :: rest) (o : RetireOutcome)
    (c : Cause) {f : OutFrame} (hf : f.cls ≠ .beacon) (h : (s.retire o (some c)).holdsFrame f) :
    (s.retire o (some c)).finish.holdsFrame f := State.finish_holdsFrame_of_held (s.retire_held hq o c) hf h

/-- The record of a head that did not start (R17). -/
theorem State.recordOf_of_not_moving {s : State} (h : s.mc.state.moving = false) (m : Move) (o : RetireOutcome)
    (c : Option Cause) :
    s.recordOf m o c = { tag := m.tag, group := m.group, outcome := o, cause := c, progress := 0, pulses := 0
                         position := s.lead.position } := by
  simp [State.recordOf, h]

/-- The removal of a queued READY makes room in the SYNC share (R41, R150). -/
theorem State.count_removeReady {s : State} (h : s.sharesOk) (hf : s.withdrawFits) : s.removeReady.fq.count .sync < 6 := by
  have hle := s.fq.count_removeQueued_le OutFrame.isReady .sync
  rcases hf with hlt | ⟨e, he, hr, hs⟩
  · exact hle.trans_lt hlt
  · have hsplit := List.countP_eq_countP_filter_add s.fq.entries (fun x => decide (x.frame.cls = .sync))
      fun x => !(decide (x.status = .queued) && x.frame.isReady)
    have hpos : 0 < (s.fq.entries.filter fun x => !!(decide (x.status = .queued) && x.frame.isReady)).countP
        fun x => decide (x.frame.cls = .sync) :=
      List.countP_pos_iff.mpr ⟨e, by simp [he, hr, hs], by simp [OutFrame.isReady_cls hr]⟩
    have hall : s.fq.count .sync ≤ 6 := h.1 .sync
    simp only [FrameQueue.count, State.removeReady, State.updFq_fq, FrameQueue.removeQueued] at hall ⊢
    omega

end Sys2Proof.Machine
end

section
/-! A SCALE for a group (R27, R71, R85). -/

-- One proof after another: elaborated side by side they need more threads than the check allows.
set_option deprecated.oldSectionVars true

namespace Sys2Proof.Machine

/-- The entry of a group after that group's entry was changed (R25). -/
theorem State.groupEntry_updGroup (s : State) (g : GroupNo) {f : GroupEntry → GroupEntry} (hn : ∀ e, (f e).number = e.number) :
    (s.updGroup g f).groupEntry g = (s.groupEntry g).map f := by
  have hp : ((fun e : GroupEntry => decide (e.number = g)) ∘ fun e => if e.number = g then f e else e) =
      fun e => decide (e.number = g) := by
    funext e
    simp only [Function.comp]
    split
    · rw [hn]
    · rfl
  simp only [State.groupEntry, State.updGroup, State.updRoll_roll, List.find?_map, hp]
  cases hf : s.roll.groups.find? fun e => decide (e.number = g) with
  | none => rfl
  | some e => simp [show e.number = g by simpa using List.find?_some hf]

theorem percentOk_iff (p : Nat) : percentOk p = true ↔ 5 ≤ p ∧ p ≤ 100 := within_eq_true_iff

/-- A SCALE of a percent out of range, or for a group that this node does not hold, changes nothing (R26, R27). -/
theorem State.groupScaleTake_of_ignored {s : State} {g p : Nat} (h : ¬(5 ≤ p ∧ p ≤ 100) ∨ s.groupEntry g = none) :
    s.groupScaleTake g p = s := by
  unfold State.groupScaleTake
  split
  · rename_i hp
    rcases h with h | h
    · exact absurd ((percentOk_iff p).mp hp) h
    · rw [h]
  · rfl

/-- A SCALE for a group that this node holds stores the group scale, and the cap of a running move of the group follows it
(R27, R67, R71, R85). -/
theorem State.groupScaleTake_eq {s : State} {g p : Nat} (h5 : 5 ≤ p) (h100 : p ≤ 100) (hg : s.groupEntry g ≠ none) :
    s.groupScaleTake g p =
      { s.updGroup g (fun e => { e with scale := p }) with
        lead := { s.lead with cap := match s.mc.queue with
          | m :: _ => if m.group = some g ∧ s.lead.phase = .run then some ((s.store.slots.get m.slot).cap p) else s.lead.cap
          | [] => s.lead.cap } } := by
  obtain ⟨e, he⟩ := Option.ne_none_iff_exists'.mp hg
  have hentry := s.groupEntry_updGroup g (f := fun e => { e with scale := p }) fun _ => rfl
  unfold State.groupScaleTake
  rw [if_pos ((percentOk_iff p).mpr ⟨h5, h100⟩), he]
  dsimp only
  cases hq : s.mc.queue with
  | nil =>
    simp [State.headGroup, State.head, hq]
    rfl
  | cons m rest =>
    by_cases hm : m.group = some g
    · have hs : (s.updGroup g fun e => { e with scale := p }).scaleOf m = p := by
        simp [State.scaleOf, hm, hentry, he]
      by_cases hr : s.lead.phase = .run
      · simp [State.headGroup, State.head, State.recap, hq, hm, hr, hs, State.profileOf, State.updLead]
      · simp [State.headGroup, State.head, State.recap, hq, hm, hr]
        rfl
    · simp [State.headGroup, State.head, hq, hm]
      rfl

/-- Settles O42: the frame is heard, the Roll Unit acts on it, and the bus is not idle when it has. -/
theorem groupScaleTaken : Obligations.GroupScaleTaken := by
  intro src g percent s h
  have hexec : exec (.groupScaleTaken src g percent) s = .next ((s.afterFrame src).groupScaleTake g percent) := by
    refine congrArg Host.Outcome.next ((State.takeFrom_of_hears h _ _).trans ?_)
    rw [State.afterSlot_hear_alive, State.offer_of_not_idle]
    simp [State.afterFrame]
  refine ⟨fun hi => ?_, fun h5 h100 hg => ?_⟩
  · rw [hexec, State.groupScaleTake_of_ignored (s := s.afterFrame src) hi]
  · rw [hexec, State.groupScaleTake_eq (s := s.afterFrame src) h5 h100 hg]
    rfl

end Sys2Proof.Machine
end

section
/-! The roll timeout and the gate wait timer expire (R19, R36, R41, R42, R57). -/

-- One proof after another: elaborated side by side they need more threads than the check allows.
set_option deprecated.oldSectionVars true

namespace Sys2Proof.Machine

/-- Nothing is offered while an entry is in transmission (R137). -/
theorem State.offer_of_sending {s : State} (h : s.fq.sending ≠ none) : s.offer = s := by simp [State.offer, h]

theorem FrameQueue.sending_of_readySending {q : FrameQueue} (h : q.readySending = true) : q.sending ≠ none := by
  rintro hs
  simp [FrameQueue.readySending, hs] at h

/-- The expiry of the roll timeout is kept while the READY is in transmission (R42). -/
theorem State.rollExpires_of_sending {s : State} (h : s.settled) (ht : s.roll.timer ≠ none) (hs : s.mc.state = .announcing)
    (hr : s.fq.readySending = true) :
    s.rollExpires =
      { s with roll := { s.roll with timer := none }, mc := { s.mc with kept := s.mc.kept ++ [.rollTimeout] } } := by
  obtain ⟨ms, hms⟩ := Option.ne_none_iff_exists'.mp ht
  unfold State.rollExpires State.failAnnounced
  rw [hms]
  dsimp only
  rw [if_pos (by simp [hs, NodeState.announced]), if_pos ⟨hs, hr⟩]
  refine (State.finish_of_settled ?_).trans (State.offer_of_sending ?_)
  · exact h.of_not_pending h.1 (by simp [hs]) rfl rfl
  · exact FrameQueue.sending_of_readySending hr

/-- The roll timeout of an announced head whose READY is not in transmission ends it FAILED ROLL_TIMEOUT (R36, R41). -/
theorem State.rollExpires_of_announced {s : State} (ht : s.roll.timer ≠ none)
    (hs : s.mc.state = .armed ∨ (s.mc.state = .announcing ∧ s.fq.readySending = false)) :
    s.rollExpires =
      ((s.updRoll fun r => { r with timer := none }).removeReady.retire .failed (some .rollTimeout)).finish := by
  obtain ⟨ms, hms⟩ := Option.ne_none_iff_exists'.mp ht
  unfold State.rollExpires State.failAnnounced
  rw [hms]
  rcases hs with hs | ⟨hs, hr⟩
  · simp [hs, NodeState.announced, State.giveUp, State.addCauses]
  · simp [hs, hr, NodeState.announced, State.giveUp, State.addCauses]

/-- The gate wait timer runs only while the node is not busy with a head (R15, R56). -/
theorem State.mid.not_busy_of_gateTimer {s : State} (h : s.mid) (ht : s.gate.timer ≠ none) : s.mc.state.busy = false := by
  by_contra hb
  exact ht (h.room (NodeState.busy_iff.mp (by simpa using hb))).2.2

theorem State.gateExpires_of_record {s : State} (ht : s.gate.timer ≠ none) (hr : s.mc.record ≠ none) :
    s.gateExpires = { s with gate := { s.gate with timer := none }, mc := { s.mc with deferredExpiry := true } } := by
  obtain ⟨ms, hms⟩ := Option.ne_none_iff_exists'.mp ht
  unfold State.gateExpires
  rw [hms]
  dsimp only
  rw [if_pos (Option.isSome_iff_ne_none.mpr hr)]
  rfl

theorem State.gateExpires_of_no_record {s : State} (ht : s.gate.timer ≠ none) (hr : s.mc.record = none) :
    s.gateExpires = ((s.updGate fun g => { g with timer := none }).retire .failed (some .gateTimeout)).finish := by
  obtain ⟨ms, hms⟩ := Option.ne_none_iff_exists'.mp ht
  simp [State.gateExpires, hms, hr]

/-- Settles O48: each expiry is kept, or ends the head for its cause. -/
theorem rollAndGateTimersExpire : Obligations.RollAndGateTimersExpire := by
  intro s h
  have hroll : exec .rollTimeout s = .next s.rollExpires := rfl
  have hgate : exec .gateWaitTimerExpires s = .next s.gateExpires := rfl
  refine ⟨fun ht => ?_, fun ht hs hr => ?_, fun m rest hq ht hs => ?_, fun ht => ?_, fun ht hr => ?_, ?_⟩
  · rw [hroll, State.rollExpires, ht]
  · rw [hroll, State.rollExpires_of_sending h.settled ht hs hr]
  · have hann : s.mc.state.announced = true := by
      rcases hs with hs | ⟨hs, -⟩ <;> rw [hs] <;> rfl
    have hm := NodeState.not_moving_of_announced hann
    have hfree : 0 < s.removeReady.fq.free := (h.room (.inl hann)).1.trans_le (s.fq.free_removeQueued_le _)
    let u : State := (s.updRoll fun r => { r with timer := none }).removeReady
    have he := hroll.trans (congrArg _ (State.rollExpires_of_announced ht hs))
    have hqu : u.mc.queue = m :: rest := hq
    obtain ⟨h1, h2, h3, h4, h5, h6, -⟩ := State.retire_finish hqu .failed .rollTimeout
    refine ⟨_, he, rfl, h1, h2, h3, h4, ?_, fun _ => ?_, fun g hg hw => ?_, ?_⟩
    · refine State.retire_finish_holds hqu .failed .rollTimeout (by simp [OutFrame.cls]) ?_
      exact u.recordOf_of_not_moving hm m _ _ ▸ State.retire_holds_report hqu hfree _ _
    · have hmid := exec_mid h.mid he
      intro e hmem
      by_contra hr
      have hmem : e.frame ∈ _ := FrameQueue.mem_readies.mpr ⟨by simpa using hr, e, hmem, rfl⟩
      rw [hmid.readies.1 (by rw [h1]; nofun)] at hmem
      cases hmem
    · refine State.retire_finish_holds hqu .failed .rollTimeout (by simp [OutFrame.cls]) ?_
      exact State.retire_holds_withdraw hqu hg nofun (State.count_removeReady h.shares hw)
    · exact ⟨by simp, by simp, h5, h6, by simp⟩
  · rw [hgate, State.gateExpires, ht]
  · rw [hgate, State.gateExpires_of_record ht hr]
  · intro m rest hq ht hr record
    have hm := NodeState.not_moving_of_not_busy (h.mid.not_busy_of_gateTimer ht)
    let u : State := s.updGate fun g => { g with timer := none }
    have he := hgate.trans (congrArg _ (State.gateExpires_of_no_record ht hr))
    have hqu : u.mc.queue = m :: rest := hq
    obtain ⟨h1, h2, h3, h4, h5, h6, h7⟩ := State.retire_finish hqu .failed .gateTimeout
    have hrec : u.recordOf m .failed (some .gateTimeout) = record := u.recordOf_of_not_moving hm m _ _
    refine ⟨_, he, rfl, h1, h2, h3, fun hf => ⟨?_, ?_⟩, fun hf => ?_, fun g hg hw => ?_, ?_⟩
    · rw [h7, State.retire_record hqu]
      exact (if_pos hf).trans hr
    · refine State.retire_finish_holds hqu .failed .gateTimeout (by simp [OutFrame.cls]) ?_
      exact hrec ▸ State.retire_holds_report hqu hf _ _
    · rw [h7, State.retire_record hqu, hrec]
      exact if_neg hf.not_gt
    · refine State.retire_finish_holds hqu .failed .gateTimeout (by simp [OutFrame.cls]) ?_
      exact State.retire_holds_withdraw hqu hg nofun hw
    · exact ⟨by simp, by simp, h5, h6, by simp⟩

end Sys2Proof.Machine
end

section
/-! SUPPORT. A frame of another node whose presence it leaves as it is, taken with no attempt of this node on the bus (R109,
R142), and an announced head that it ends (R41). -/

-- One proof after another: elaborated side by side they need more threads than the check allows.
set_option deprecated.oldSectionVars true

namespace Sys2Proof.Machine

/-! ## A frame that is heard -/

/-- A presence that an entry has already brings nothing (R111). -/
theorem State.setPresence_of_present {s : State} {a : Addr} {p : Presence}
    (h : ∀ e ∈ s.peer.peers, e.addr = a → e.presence = p) : s.setPresence a p = s := by
  unfold State.setPresence
  cases he : s.peerEntry a with
  | none => rfl
  | some e => exact if_pos (h e (List.mem_of_find?_eq_some he) (by simpa using List.find?_some he))

/-- A READY, WITHDRAW, HALT or MARK of a sender that is PRESENT already restarts its silence timer (R109). -/
theorem State.hear_configured {s : State} {src : Addr} (h : ∀ e ∈ s.peer.peers, e.addr = src → e.presence = .present) :
    (s.afterSlot SlotMarks.none).hear src .configured = s.afterFrame src := by
  refine State.setPresence_of_present (s := s.afterFrame src) fun e he ha => ?_
  obtain ⟨x, hx, rfl⟩ := List.mem_map.mp he
  rw [apply_ite PeerEntry.addr, ite_self] at ha
  rw [apply_ite PeerEntry.presence, ite_self, h x hx ha]

theorem State.afterFrame_not_idle (s : State) (src : Addr) : (s.afterFrame src).link.idleCount ≠ 12 := by
  simp [State.afterFrame]

theorem State.afterFrame_mid {s : State} (h : s.mid) (src : Addr) : (s.afterFrame src).mid :=
  h.congr { mc := rfl, gate := rfl, store := rfl, groups := rfl, addr := rfl, free := le_rfl, flight := h.flight
            lead := rfl, readies := rfl }

/-- Nothing follows a frame that leaves the Move Controller, the mark list and the Frame Queue as they were. -/
theorem State.finish_of_heard {s t : State} (h : s.settled) (hi : t.link.idleCount = 0) (hmc : t.mc = s.mc)
    (hg : t.gate.marks = s.gate.marks) (hf : t.fq = s.fq) : t.finish = t :=
  State.finish_of_settled_of_not_idle (h.of_frame hmc hg (by rw [hf]) (by rw [hf])) (by simp [hi])

/-! ## The Frame Queue with nothing in transmission -/

theorem FrameQueue.queued_of_not_sending {q : FrameQueue} (h : q.sending = none) {e : Entry} (he : e ∈ q.entries) :
    e.status = .queued := by
  have := List.find?_eq_none.mp h e he
  cases hs : e.status <;> simp_all

/-- With nothing in transmission every frame picked leaves (R41, R153). -/
theorem FrameQueue.removeQueued_of_not_sending {q : FrameQueue} (h : q.sending = none) (pick : OutFrame → Bool) :
    q.removeQueued pick = { q with entries := q.entries.filter fun e => !pick e.frame } := by
  refine congrArg (fun es => { q with entries := es }) (List.filter_congr fun e he => ?_)
  simp [FrameQueue.queued_of_not_sending h he]

theorem FrameQueue.count_removeQueued_of_ne (q : FrameQueue) {pick : OutFrame → Bool} {k : FrameClass}
    (h : ∀ f, pick f = true → f.cls ≠ k) : (q.removeQueued pick).count k = q.count k := by
  refine List.countP_filter.trans (List.countP_congr fun e _ => ?_)
  simp only [Bool.and_eq_true, decide_eq_true_eq, Bool.not_eq_true', Bool.and_eq_false_iff, and_iff_left_iff_imp]
  exact fun hk => .inr (by simpa using fun hp => h _ hp hk)

/-! ## The end of an announced head -/

/-- The node after its announced head has failed and the event is over: HELD for the cause (R22, R41). -/
theorem State.giveUp_finish {s : State} {m : Move} {rest : List Move} (hq : s.mc.queue = m :: rest) (c : Cause) :
    (s.giveUp .failed c []).finish.mc.state = .held ∧ holdsCause (s.giveUp .failed c []).finish.mc.causes c = true ∧
    (s.giveUp .failed c []).finish.mc.queue = rest ∧ (s.giveUp .failed c []).finish.roll.groups = s.roll.groups ∧
    (s.giveUp .failed c []).finish.store = s.store ∧ (s.giveUp .failed c []).finish.lead = s.lead ∧
    (s.giveUp .failed c []).finish.out = s.out ∧ (s.giveUp .failed c []).finish.inp = s.inp := by
  obtain ⟨hstate, hcause, hqueue, hroll, hlead, hout, -⟩ := State.retire_finish (s := s.removeReady) hq .failed c
  exact ⟨hstate, hcause, hqueue, congrArg (·.groups) hroll, by simp, hlead, hout, by simp⟩

/-- Its REPORT stands in the Frame Queue: an announced head keeps a REPLY entry free (R16, R17). -/
theorem State.giveUp_finish_report {s : State} {m : Move} {rest : List Move} (h : s.mid) (ha : s.mc.state.announced = true)
    (hq : s.mc.queue = m :: rest) (c : Cause) :
    (s.giveUp .failed c []).finish.holdsFrame (.report m.origin
      { tag := m.tag, group := m.group, outcome := .failed, cause := some c, progress := 0, pulses := 0
        position := s.lead.position }) := by
  have hrec := s.removeReady.recordOf_of_not_moving (NodeState.not_moving_of_announced ha) m .failed (some c)
  have hfree : 0 < s.removeReady.fq.free := (h.room (.inl ha)).1.trans_le (s.fq.free_removeQueued_le _)
  refine State.retire_finish_holds (s := s.removeReady) hq .failed c (by simp [OutFrame.cls]) ?_
  exact hrec ▸ State.retire_holds_report (s := s.removeReady) hq hfree _ _

/-- Its WITHDRAW stands in the Frame Queue if the SYNC share has room (R21, R41). -/
theorem State.giveUp_finish_withdraw {s : State} {m : Move} {rest : List Move} {g : GroupNo} {c : Cause}
    (hq : s.mc.queue = m :: rest) (hg : m.group = some g) (hc : c ≠ .peerWithdrew) (hs : s.fq.count .sync < 6) :
    (s.giveUp .failed c []).finish.holdsFrame (.withdraw g m.tag c) := by
  refine State.retire_finish_holds (s := s.removeReady) hq .failed c (by simp [OutFrame.cls]) ?_
  exact State.retire_holds_withdraw (s := s.removeReady) hq hg hc ((s.fq.count_removeQueued_le _ _).trans_lt hs)

/-- With nothing in transmission and the bus not idle, its READY is gone, and only frames of its end have joined (R18, R21,
R41). -/
theorem State.giveUp_finish_entries {s : State} {m : Move} {rest : List Move} {c : Cause} (hs : s.fq.sending = none)
    (hi : s.link.idleCount ≠ 12) (hq : s.mc.queue = m :: rest) {e : Entry} (he : e ∈ (s.giveUp .failed c []).finish.fq.entries) :
    (e ∈ s.fq.entries ∧ e.frame.isReady = false) ∨ endFrame (some c) e.frame := by
  have hjoined := (s.removeReady.retire_joined .failed (some c)).trans
    (State.finish_joined_of_held (s.removeReady.retire_held hq .failed c) (by simpa using hi) _)
  refine (hjoined.mem_or he).imp_left fun hold => ?_
  have hold : e ∈ (s.fq.removeQueued OutFrame.isReady).entries := hold
  simpa [FrameQueue.removeQueued_of_not_sending hs] using hold

theorem endFrame.isReady {c : Option Cause} {f : OutFrame} (h : endFrame c f) : f.isReady = false := by
  cases f with
  | ready => exact h.elim
  | _ => rfl

theorem endFrame.isWithdrawOf {f : OutFrame} (h : endFrame (some .peerWithdrew) f) (g : GroupNo) (t : Tag) :
    f.isWithdrawOf g t = false := by
  cases f with
  | withdraw _ _ k =>
    obtain ⟨hk, hne⟩ := h
    exact absurd (Option.some.inj hk).symm hne
  | _ => rfl

end Sys2Proof.Machine
end

section
/-! A WITHDRAW of another node (R30, R39, R40). -/

-- One proof after another: elaborated side by side they need more threads than the check allows.
set_option deprecated.oldSectionVars true

namespace Sys2Proof.Machine

theorem State.headIs_iff (s : State) (g : GroupNo) (t : Tag) :
    s.headIs g t = true ↔ ∃ m ∈ s.mc.queue.head?, m.group = some g ∧ m.tag = t := by
  unfold State.headIs State.head
  cases s.mc.queue.head? <;> simp

/-- A WITHDRAW for a group that this node does not hold, or from outside its member set, changes nothing (R26). -/
theorem State.withdrawTake_of_ignored {s : State} {src : Addr} {g : GroupNo}
    (h : ∀ e, s.groupEntry g = some e → src ∉ e.members) (t : Tag) : s.withdrawTake src g t = s := by
  unfold State.withdrawTake
  cases he : s.groupEntry g with
  | none => rfl
  | some e => exact if_neg (h e he)

/-- A WITHDRAW of another member empties the roll entries naming its tag, and the queue is acted on (R28, R30). -/
theorem State.withdrawTake_of_member {s : State} {src : Addr} {g : GroupNo} {e : GroupEntry} (he : s.groupEntry g = some e)
    (hm : src ∈ e.members) (hs : src ≠ s.self) (t : Tag) :
    s.withdrawTake src g t = (s.updGroup g (·.emptyTag t)).withdrawn g t := by
  unfold State.withdrawTake
  rw [he]
  dsimp only
  rw [if_pos hm, if_neg hs]

theorem State.withdrawn_of_moving {s : State} {g : GroupNo} {t : Tag} (hh : s.headIs g t = true)
    (hm : s.mc.state.moving = true) : s.withdrawn g t = s := by
  have ha : s.mc.state.announced = false := by
    cases ha : s.mc.state.announced with
    | false => rfl
    | true => simp [NodeState.not_moving_of_announced ha] at hm
  simp [State.withdrawn, hh, ha, hm]

theorem State.withdrawn_of_announced {s : State} {g : GroupNo} {t : Tag} (hh : s.headIs g t = true)
    (ha : s.mc.state.announced = true) : s.withdrawn g t = s.giveUp .failed .peerWithdrew [] := by
  simp [State.withdrawn, hh, ha]

/-- The gate wait timer of a head with decided gates stops (R54, R56). -/
theorem State.judgeGates_of_decided {s : State} {m : Move} {rest : List Move} (hq : s.mc.queue = m :: rest)
    (hd : m.decided s.gate.marks = true) : s.judgeGates = s.updGate fun g => { g with timer := none } := by
  simp [State.judgeGates, hq, hd]

/-- The flag decides the gates of a head that it reaches (R40, R54). -/
theorem State.judgeGates_flagWithdrawn {s : State} {g : GroupNo} {t : Tag} (hh : s.headIs g t = true) :
    (s.updMc fun m => { m with queue := flagWithdrawn g t m.queue }).judgeGates =
      { s with mc := { s.mc with queue := flagWithdrawn g t s.mc.queue }, gate := { s.gate with timer := none } } := by
  obtain ⟨m, hm, hg, ht⟩ := (s.headIs_iff g t).mp hh
  obtain ⟨rest, hq⟩ := List.head?_eq_some_iff.mp hm
  refine State.judgeGates_of_decided (m := { m with withdrawnBy := true }) (rest := flagWithdrawn g t rest) ?_ ?_
  · simp [flagWithdrawn, hq, hg, ht]
  · simp [Move.decided]

/-- An entry that neither moves nor is announced is flagged (R40). -/
theorem State.withdrawn_of_waiting {s : State} {g : GroupNo} {t : Tag}
    (h : ¬(s.headIs g t = true ∧ (s.mc.state.moving = true ∨ s.mc.state.announced = true))) :
    s.withdrawn g t =
      { s with
        mc := { s.mc with queue := flagWithdrawn g t s.mc.queue }
        gate := { s.gate with timer := if s.headIs g t = true then none else s.gate.timer } } := by
  unfold State.withdrawn
  by_cases hh : s.headIs g t = true
  · obtain ⟨hm, ha⟩ := not_or.mp fun hb => h ⟨hh, hb⟩
    rw [if_pos hh, if_neg ha, if_neg hm, State.judgeGates_flagWithdrawn hh, if_pos hh]
  · rw [if_neg hh, if_neg hh]
    rfl

/-- Settles O39: the frame is heard, the roll is emptied of its tag, and the queue is acted on by the state of the entry. -/
theorem withdrawTaken : Obligations.WithdrawTaken := by
  intro src g t cause s h hok c
  obtain ⟨hears, hpresent⟩ := h
  have ⟨_, hself, hsend, _⟩ := hears
  have hexec : exec c s = .next ((s.afterFrame src).withdrawTake src g t).finish := by
    refine congrArg Host.Outcome.next ((State.takeFrom_of_hears hears _ _).trans ?_)
    rw [State.hear_configured hpresent]
  have hignored (hi : ∀ e, s.groupEntry g = some e → src ∉ e.members) : exec c s = .next (s.afterFrame src) := by
    rw [hexec, State.withdrawTake_of_ignored (s := s.afterFrame src) hi,
      State.finish_of_heard (t := s.afterFrame src) hok.settled rfl rfl rfl rfl]
  refine ⟨fun hn => hignored (by simp [hn]), ?_⟩
  intro entry he u isHead flagged
  have hmember (hm : src ∈ entry.members) : exec c s = .next (u.withdrawn g t).finish := by
    rw [hexec, State.withdrawTake_of_member (s := s.afterFrame src) he hm hself]
    rfl
  have hhead : u.headIs g t = true ↔ isHead := u.headIs_iff g t
  refine ⟨fun hm => hignored fun e he' => ?_, fun hm hh hmv => ?_, fun hm hw => ?_, fun m hm hq hg ht ha => ?_⟩
  · rwa [← Option.some.inj (he.symm.trans he')]
  · rw [hmember hm, State.withdrawn_of_moving (hhead.mpr hh) hmv]
    exact congrArg _ (State.finish_of_heard hok.settled rfl rfl rfl rfl)
  · have hflagged : u.withdrawn g t = flagged := by
      rw [State.withdrawn_of_waiting (by rwa [hhead])]
      simp only [hhead]
      rfl
    rw [hmember hm, hflagged]
    refine ⟨rfl, fun hp => congrArg _ (State.finish_of_settled_of_not_idle ?_ (by decide : (0 : Nat) ≠ 12))⟩
    exact hok.settled.of_not_pending hok.settled.1 hp rfl rfl
  · obtain ⟨rest, hq⟩ := List.head?_eq_some_iff.mp hq
    have hqu : u.mc.queue = m :: rest := hq
    have hu : u.mid := State.updGroup_mid (State.afterFrame_mid hok.mid src) g
      ((·.emptyTag t)) (fun _ => rfl) fun e => e.emptyTag_members t
    obtain ⟨hstate, hcause, hqueue, hgroups, hrest⟩ := State.giveUp_finish hqu .peerWithdrew
    refine ⟨_, hmember hm, ?_⟩
    rw [State.withdrawn_of_announced (hhead.mpr ⟨m, by simp [hq], hg, ht⟩) ha]
    refine ⟨hstate, hcause, hqueue.trans (by rw [hq]; rfl), hgroups, ?_, fun e hmem => ?_, hrest⟩
    · exact hg ▸ ht ▸ State.giveUp_finish_report hu ha hqu .peerWithdrew
    · rcases State.giveUp_finish_entries (s := u) hsend (s.afterFrame_not_idle src) hqu hmem with ⟨hold, hr⟩ | hend
      · exact ⟨hr, fun _ => hold⟩
      · exact ⟨hend.isReady, by simp [hend.isWithdrawOf]⟩

end Sys2Proof.Machine
end

section
/-! A READY of another node (R28, R29, R34, R35, R37). -/

-- One proof after another: elaborated side by side they need more threads than the check allows.
set_option deprecated.oldSectionVars true

namespace Sys2Proof.Machine

/-! ## The roll -/

/-- Two changes of a group's entry are one (R25). -/
theorem State.updGroup_updGroup (s : State) (g : GroupNo) {f k : GroupEntry → GroupEntry} (hn : ∀ e, (f e).number = e.number) :
    (s.updGroup g f).updGroup g k = s.updGroup g fun e => k (f e) := by
  refine congrArg (fun gs => ({ s with roll := { s.roll with groups := gs } } : State)) ?_
  refine List.map_map.trans (List.map_congr_left fun e _ => ?_)
  by_cases he : e.number = g
  · simp [he, (hn e).trans he]
  · simp [he]

/-- The roll is complete for a tag when the writer's entry was the last that did not name it (R29, R34). -/
theorem GroupEntry.write_complete_iff (e : GroupEntry) (a : Addr) (t : Tag) :
    (e.write a (some t)).complete t = true ↔ ∀ r ∈ e.roll, r.addr = a ∨ r.tag = some t := by
  have hr (r : RollEntry) : (if r.addr = a then { r with tag := some t } else r).tag = some t ↔ r.addr = a ∨ r.tag = some t := by
    split <;> simp [*]
  simp [GroupEntry.complete, GroupEntry.write, hr]

theorem GroupEntry.write_mismatch_iff (e : GroupEntry) (a : Addr) (t : Tag) (self : Addr) (u : Tag) :
    (e.write a (some t)).mismatch self u = true ↔
      ∃ r ∈ e.roll, r.addr ≠ self ∧ ∃ x ∈ (if r.addr = a then { r with tag := some t } else r).tag, x ≠ u := by
  have hr (r : RollEntry) : (if r.addr = a then { r with tag := some t } else r).addr = r.addr := by
    split <;> rfl
  rw [GroupEntry.mismatch_iff]
  simp only [GroupEntry.write, List.mem_map, exists_exists_and_eq_and, hr]

/-- The entries of the writer and those naming the tag are empty after a start event (R34). -/
theorem GroupEntry.write_emptyTag (e : GroupEntry) (a : Addr) (t : Tag) :
    (e.write a (some t)).emptyTag t =
      { e with roll := e.roll.map fun r => if r.addr = a ∨ r.tag = some t then { r with tag := none } else r } := by
  refine congrArg (fun l => { e with roll := l }) (List.map_map.trans (List.map_congr_left fun r _ => ?_))
  by_cases ha : r.addr = a <;> simp [ha]

/-- An announced head of a group meets a mismatch by that group's entry (R37). -/
theorem State.mismatched_iff {s : State} {g : GroupNo} {e : GroupEntry} (he : s.groupEntry g = some e) :
    s.mismatched g = true ↔ ∃ m, (s.mc.state.announced = true ∧ s.mc.queue.head? = some m ∧ m.group = some g) ∧
      e.mismatch s.self m.tag = true := by
  unfold State.mismatched State.head
  rw [he]
  cases s.mc.queue.head? <;> simp [and_assoc]

/-! ## The take -/

/-- A READY for a group that this node does not hold, or from outside its member set, changes nothing (R26). -/
theorem State.readyTake_of_ignored {s : State} {src : Addr} {g : GroupNo}
    (h : ∀ e, s.groupEntry g = some e → src ∉ e.members) (t : Tag) : s.readyTake src g t = s := by
  unfold State.readyTake
  cases he : s.groupEntry g with
  | none => rfl
  | some e => exact if_neg (h e he)

/-- A READY of another member is entered in the roll, which is judged in the order of R29. -/
theorem State.readyTake_of_member {s : State} {src : Addr} {g : GroupNo} {e : GroupEntry} (he : s.groupEntry g = some e)
    (hm : src ∈ e.members) (hs : src ≠ s.self) (t : Tag) :
    s.readyTake src g t =
      if (e.write src (some t)).complete t then (s.updGroup g (·.write src (some t))).startEvent g t
      else if (s.updGroup g (·.write src (some t))).mismatched g then
        (s.updGroup g (·.write src (some t))).giveUp .failed .tagMismatch []
      else s.updGroup g (·.write src (some t)) := by
  unfold State.readyTake
  rw [he]
  dsimp only
  rw [if_pos hm, if_neg fun h : src = s.self ∧ _ => hs h.1]

/-! ## The stale start -/

/-- Without a WITHDRAW that the notice replaces, the notice of a stale start tells of LINK (R35). -/
theorem State.staleStart_of_none {s : State} {g : GroupNo} {t : Tag}
    (h : ∀ e ∈ s.fq.entries, e.frame.isToldByNotice g t = false) :
    s.staleStart g t = s.raiseNotice g { kind := .now, cause := .link, tag := t } false := by
  have hf : (s.fq.entries.find? fun e => decide (e.status = .queued) && e.frame.isToldByNotice g t) = none :=
    List.find?_eq_none.mpr fun e he => by simp [h e he]
  simp [State.staleStart, FrameQueue.withdrawCause, hf]

/-- With nothing in transmission the oldest WITHDRAW that the notice replaces gives the cause, and all leave (R35). -/
theorem State.staleStart_of_told {s : State} {g : GroupNo} {t : Tag} {k : Cause} {before after : List Entry} {e : Entry}
    (hs : s.fq.sending = none) (hq : s.fq.entries = before ++ e :: after) (he : e.frame = .withdraw g t k)
    (ht : e.frame.isToldByNotice g t = true) (hb : ∀ x ∈ before, x.frame.isToldByNotice g t = false) :
    s.staleStart g t =
      (s.updFq fun q => { q with entries := q.entries.filter fun e => !e.frame.isToldByNotice g t }).raiseNotice g
        { kind := .now, cause := k, tag := t } false := by
  have hqueued : e.status = .queued := FrameQueue.queued_of_not_sending hs (by simp [hq])
  have hf : (s.fq.entries.find? fun e => decide (e.status = .queued) && e.frame.isToldByNotice g t) = some e :=
    List.find?_eq_some_iff_append.mpr ⟨by simp [hqueued, ht], before, after, hq, fun x hx => by simp [hb x hx]⟩
  simp only [State.staleStart, FrameQueue.withdrawCause, hf, he]
  rw [State.updFq, FrameQueue.removeQueued_of_not_sending hs]
  rfl

/-- The frames of a withdrawn tag that a notice replaces are its WITHDRAWs but those of the six causes that no HALT notice
carries (R107). -/
theorem OutFrame.isToldByNotice_eq (f : OutFrame) (g : GroupNo) (t : Tag) :
    f.isToldByNotice g t = (f.isWithdrawOf g t &&
      [Cause.softLimit, .range, .peerWithdrew, .gateVoid, .gateTimeout, .seekOverrun].all fun k =>
        decide (f ≠ .withdraw g t k)) := by
  have hk (k : Cause) : causeInNotice k =
      [Cause.softLimit, .range, .peerWithdrew, .gateVoid, .gateTimeout, .seekOverrun].all fun x => decide (k ≠ x) := by
    cases k <;> rfl
  cases f with
  | withdraw g' t' k =>
    by_cases hgt : g' = g ∧ t' = t
    · obtain ⟨rfl, rfl⟩ := hgt
      simp [OutFrame.isToldByNotice, OutFrame.isWithdrawOf, hk]
    · have : (decide (g' = g) && decide (t' = t)) = false := by simpa using hgt
      simp [OutFrame.isToldByNotice, OutFrame.isWithdrawOf, this]
  | _ => rfl

/-! ## The start event -/

theorem State.removeReady_of_not_sending {s : State} (h : s.fq.sending = none) :
    s.removeReady = s.updFq fun q => { q with entries := q.entries.filter fun e => !e.frame.isReady } := by
  rw [State.removeReady, State.updFq, FrameQueue.removeQueued_of_not_sending h]
  rfl

/-- The start event of a roll entry that no announced head of this node stands for is stale (R35). -/
theorem State.startEvent_of_stale {s : State} {g : GroupNo} {t : Tag}
    (h : ¬(s.mc.state.announced = true ∧ s.headIs g t = true)) :
    s.startEvent g t = (s.updGroup g (·.emptyTag t)).staleStart g t := by
  unfold State.startEvent
  exact if_neg fun hc => h (Bool.and_eq_true_iff.mp hc)

/-- Nothing follows a start on a bus that is not idle (R12, R94). -/
theorem State.finish_of_started {s : State} (h : s.settled) (hi : s.link.idleCount ≠ 12) (m : Move) :
    (s.removeReady.startMove m).finish = s.removeReady.startMove m := by
  refine State.finish_of_settled_of_not_idle ?_ (by simpa using hi)
  refine h.of_not_pending h.1 nofun rfl ?_
  exact s.fq.count_removeQueued_of_ne fun f hf => by simp [OutFrame.isReady_cls hf]

/-- Settles O38: the frame is heard, its sender's entry is written, and the roll is judged: complete, in a mismatch or
neither. -/
theorem readyTaken : Obligations.ReadyTaken := by
  intro src g t s h hok c u
  obtain ⟨hears, hpresent⟩ := h
  have ⟨_, hself, hsend, _⟩ := hears
  have hexec : exec c s = .next (u.readyTake src g t).finish := by
    refine congrArg Host.Outcome.next ((State.takeFrom_of_hears hears _ _).trans ?_)
    rw [State.hear_configured hpresent]
  have hignored (hi : ∀ e, s.groupEntry g = some e → src ∉ e.members) : exec c s = .next u := by
    rw [hexec, State.readyTake_of_ignored (s := u) hi, State.finish_of_heard (t := u) hok.settled rfl rfl rfl rfl]
  refine ⟨fun hn => hignored (by simp [hn]), ?_⟩
  intro entry he groups write empty complete announcedFor mismatch told
  let w : State := u.updGroup g (·.write src (some t))
  have hcomplete : (entry.write src (some t)).complete t = true ↔ complete := entry.write_complete_iff src t
  have hmismatch : w.mismatched g = true ↔ ∃ m, announcedFor m ∧ mismatch m := by
    have hw : w.groupEntry g = some (entry.write src (some t)) :=
      (u.groupEntry_updGroup g (f := (·.write src (some t))) fun _ => rfl).trans (congrArg (Option.map _) he)
    refine (State.mismatched_iff hw).trans (exists_congr fun m => and_congr_right fun _ => ?_)
    exact entry.write_mismatch_iff src t s.self m.tag
  let v : State := { u with roll := groups empty }
  have hempty : w.updGroup g (·.emptyTag t) = v := by
    refine (u.updGroup_updGroup g (f := (·.write src (some t))) fun _ => rfl).trans ?_
    simp only [GroupEntry.write_emptyTag]
    rfl
  have htold : told = OutFrame.isToldByNotice g t := funext fun f => (f.isToldByNotice_eq g t).symm
  have htake (hm : src ∈ entry.members) := State.readyTake_of_member (s := u) he hm hself t
  have hstart (hm : src ∈ entry.members) (hc : complete) : exec c s = .next (w.startEvent g t).finish := by
    rw [hexec, htake hm, if_pos (hcomplete.mpr hc)]
  have hstale (hm : src ∈ entry.members) (hc : complete) (hns : ∀ m, announcedFor m → m.tag ≠ t) :
      exec c s = .next (v.staleStart g t).finish := by
    rw [hstart hm hc, State.startEvent_of_stale, hempty]
    rintro ⟨ha, hh⟩
    obtain ⟨m, hm, hg, ht⟩ := (w.headIs_iff g t).mp hh
    exact hns m ⟨ha, hm, hg⟩ ht
  have hopen (hm : src ∈ entry.members) (hc : ¬complete) :
      exec c s = .next (if w.mismatched g then w.giveUp .failed .tagMismatch [] else w).finish := by
    rw [hexec, htake hm, if_neg (mt hcomplete.mp hc)]
  refine ⟨fun hm => hignored fun e he' => ?_, fun hm hc hno => ?_, fun m hm hc ha ht => ?_, fun hm hc hns hnone => ?_,
    fun k before after e hm hc hns hq hf hf' hb => ?_, fun m hm hc ha hmis => ?_⟩
  · rwa [← Option.some.inj (he.symm.trans he')]
  · rw [hopen hm hc, if_neg fun h => ?_]
    · exact congrArg _ (State.finish_of_heard hok.settled rfl rfl rfl rfl)
    · obtain ⟨m, ha, hmis⟩ := hmismatch.mp h
      exact hno m ha hmis
  · obtain ⟨hann, hhead, hg⟩ := ha
    have hstarts := w.startEvent_of_head hann ((w.headIs_iff g t).mpr ⟨m, hhead, hg, ht⟩) hhead
    rw [hstart hm hc, hstarts, hempty]
    have hset : v.settled := hok.settled.of_frame rfl rfl le_rfl rfl
    rw [State.finish_of_started hset (s.afterFrame_not_idle src), State.removeReady_of_not_sending (s := v) hsend]
    rfl
  · rw [hstale hm hc hns, State.staleStart_of_none (s := v) (htold ▸ hnone)]
  · rw [htold] at hf' hb
    rw [hstale hm hc hns, State.staleStart_of_told (s := v) hsend hq hf hf' hb, htold]
    rfl
  · have ⟨hann, hhead, hg⟩ := ha
    obtain ⟨rest, hq⟩ := List.head?_eq_some_iff.mp hhead
    have hqw : w.mc.queue = m :: rest := hq
    have hw : w.mid := State.updGroup_mid (State.afterFrame_mid hok.mid src) g ((·.write src (some t))) (fun _ => rfl)
      fun e => e.write_members _ _
    obtain ⟨hstate, hcause, hqueue, hgroups, hrest⟩ := State.giveUp_finish hqw .tagMismatch
    refine ⟨_, hopen hm hc, ?_⟩
    rw [if_pos (hmismatch.mpr ⟨m, ha, hmis⟩)]
    refine ⟨hstate, hcause, hqueue.trans (by rw [hq]; rfl), hgroups, ?_, fun e hmem => ?_, fun hroom => ?_, hrest⟩
    · exact hg ▸ State.giveUp_finish_report hw hann hqw .tagMismatch
    · rcases State.giveUp_finish_entries (s := w) hsend (s.afterFrame_not_idle src) hqw hmem with ⟨-, hr⟩ | hend
      · exact hr
      · exact hend.isReady
    · exact State.giveUp_finish_withdraw hqw hg nofun hroom

end Sys2Proof.Machine
end

section
/-! The markers of the move in hand that become reached (R46, R48, R151, R155). -/

-- One proof after another: elaborated side by side they need more threads than the check allows.
set_option deprecated.oldSectionVars true

namespace Sys2Proof.Machine

theorem mem_ascending {m : Marker} {ms : List Marker} : m ∈ ascending ms ↔ m ∈ ms := by
  by_cases h : m.number = 0 <;> simp [ascending, h]

/-! ## The output lines -/

/-- A marker output line is active (R48). -/
def Outputs.lit (o : Outputs) : MarkerLine → Bool
  | .mko0 => o.mko0
  | .mko1 => o.mko1

/-- A marker lights the line it names and no other (R48). -/
theorem Outputs.lit_light (o : Outputs) (named : Option MarkerLine) (l : MarkerLine) :
    (o.light named).lit l = true ↔ o.lit l = true ∨ named = some l := by
  cases named with
  | none => simp [Outputs.light]
  | some k => cases k <;> cases l <;> simp [Outputs.light, Outputs.lit]

/-- Several markers light the lines they name and no others (R48). -/
theorem State.reachAll_lit (t : Tag) (ms : List Marker) (s : State) (l : MarkerLine) :
    (s.reachAll t ms).out.lit l = true ↔ s.out.lit l = true ∨ ∃ m ∈ ms, m.line = some l := by
  induction ms generalizing s with
  | nil => simp [State.reachAll]
  | cons m ms ih => simp [State.reachAll, ih, Outputs.lit_light, or_assoc]

/-! ## The SYNC share -/

/-- A SYNC frame takes an entry while its share has room (R151). -/
theorem State.count_queueSync {s : State} {f : OutFrame} (hf : f.cls = .sync) (h : s.fq.count .sync ≤ 6) :
    (s.queueSync f).fq.count .sync = min 6 (s.fq.count .sync + 1) := by
  by_cases hroom : s.fq.count .sync < 6
  · simp only [State.queueSync_of_room f hroom, State.updFq_fq, ← FrameQueue.push_eq_pushAll, FrameQueue.count_push, hf,
      if_true]
    omega
  · simp only [State.queueSync, share, hroom, if_false, State.updMc_fq]
    omega

/-- A SYNC frame that finds its share full makes the LINK cause due (R155). -/
theorem State.linkDue_queueSync (s : State) (f : OutFrame) :
    (s.queueSync f).mc.linkDue = true ↔ s.mc.linkDue = true ∨ 6 ≤ s.fq.count .sync := by
  by_cases hroom : s.fq.count .sync < 6
  · simp [State.queueSync_of_room f hroom, hroom]
  · simp [State.queueSync, share, hroom, not_lt.mp hroom]

/-- MARKs that fit their share are queued whole (R46, R151). -/
theorem State.reachAll_fq_of_room {s : State} (t : Tag) (ms : List Marker) (h : s.fq.count .sync + ms.length ≤ 6) :
    (s.reachAll t ms).fq = s.fq.pushAll (ms.map fun k => .mark t k.number .reached) := by
  induction ms generalizing s with
  | nil => simp [State.reachAll]
  | cons k ms ih =>
    simp only [List.length_cons] at h
    rw [State.reachAll, State.queueSync_of_room _ (by omega), ih]
    · simp [FrameQueue.pushAll_pushAll]
    · simp only [State.updOut_fq, State.updFq_fq, ← FrameQueue.push_eq_pushAll, FrameQueue.count_push, OutFrame.cls, if_true]
      omega

/-- MARKs fill the SYNC share and no more (R151). -/
theorem State.count_reachAll {s : State} (t : Tag) (ms : List Marker) (h : s.fq.count .sync ≤ 6) :
    (s.reachAll t ms).fq.count .sync = min 6 (s.fq.count .sync + ms.length) := by
  induction ms generalizing s with
  | nil => simp [State.reachAll, h]
  | cons k ms ih =>
    have hk := State.count_queueSync (f := .mark t k.number .reached) rfl h
    rw [State.reachAll, ih] <;> simp only [State.updOut_fq, hk, List.length_cons] <;> omega

/-- MARKs that do not all fit make the LINK cause due (R155). -/
theorem State.linkDue_reachAll {s : State} (t : Tag) (ms : List Marker) (h : s.fq.count .sync ≤ 6) :
    (s.reachAll t ms).mc.linkDue = true ↔ s.mc.linkDue = true ∨ 6 < s.fq.count .sync + ms.length := by
  induction ms generalizing s with
  | nil => simp [State.reachAll, h]
  | cons k ms ih =>
    have hk := State.count_queueSync (f := .mark t k.number .reached) rfl h
    rw [State.reachAll, ih (by simp only [State.updOut_fq, hk]; omega)]
    simp only [State.updOut_fq, State.updOut_mc, hk, State.linkDue_queueSync, List.length_cons, or_assoc]
    exact or_congr_right (by omega)

/-! ## The markers picked -/

/-- The Frame Queue, the output lines and the LINK cause are those that the MARKs leave; the markers picked are no longer
unreached (R46). -/
theorem State.reach_of_held {s : State} {h : HeldMarkers} (hh : s.gate.held = some h) (pick : Marker → Bool) :
    s.reach pick = (s.reachAll h.tag (ascending (h.unreached.filter pick))).updGate
      fun g => { g with held := some { h with unreached := h.unreached.filter fun m => !pick m } } := by
  simp [State.reach, hh]

/-- Settles O14: the MARKs of the markers picked are queued one after the other, and each lights its line. -/
theorem markersReached : Obligations.MarkersReached := by
  intro s h pick hh now order
  have hlen : (ascending now).length = now.length := length_ascending now
  have hline (l : MarkerLine) : (s.reachAll h.tag (ascending now)).out.lit l = true ↔
      s.out.lit l = true ∨ ∃ m ∈ now, m.line = some l := by
    simp only [State.reachAll_lit, mem_ascending]
  rw [State.reach_of_held hh pick]
  refine ⟨fun hroom => ?_, fun hover _ hshare => ⟨?_, ?_⟩, ?_, hline .mko0, hline .mko1⟩
  · rw [State.updGate_fq, State.reachAll_fq_of_room _ _ (hlen ▸ hroom), FrameQueue.pushAll, List.map_map]
    rfl
  · exact (State.linkDue_reachAll h.tag _ hshare).mpr (.inr (hlen ▸ hover))
  · rw [State.updGate_fq, State.count_reachAll h.tag _ hshare, hlen]
    omega
  · simp

end Sys2Proof.Machine
end

section
/-! A MARK of another node (R51, R52, R54, R57). -/

-- One proof after another: elaborated side by side they need more threads than the check allows.
set_option deprecated.oldSectionVars true

namespace Sys2Proof.Machine

/-! ## Gates and records -/

theorem Gate.satisfied_iff (marks : List MarkRecord) (g : Gate) :
    g.satisfied marks = true ↔ ∃ r ∈ marks, g.names r = true ∧ r.outcome = .reached := by
  simp [Gate.satisfied]

/-- The gates of an entry are decided: all satisfied, one voided, or its tag withdrawn (R54). -/
theorem Move.decided_iff {marks : List MarkRecord} {m : Move} :
    m.decided marks = true ↔ (∀ g ∈ m.gates, ∃ r ∈ marks, g.names r = true ∧ r.outcome = .reached) ∨
      (∃ g ∈ m.gates, ∃ r ∈ marks, g.names r = true ∧ r.outcome = .void) ∨ m.withdrawnBy = true := by
  simp only [Move.decided, Bool.or_eq_true, List.all_eq_true, List.any_eq_true, Gate.satisfied_iff, Gate.voided_iff, or_assoc]

theorem namedBy_iff_exists_gate {ms : List Move} {r : MarkRecord} :
    namedBy ms r = true ↔ ∃ m ∈ ms, ∃ g ∈ m.gates, g.source = r.source ∧ g.tag = r.tag ∧ g.marker = r.marker := by
  simp [namedBy, Gate.names, and_assoc]

/-! ## The take -/

/-- The gate wait timer stops exactly when the head's gates are decided (R54, R56). -/
theorem State.judgeGates_eq (s : State) :
    s.judgeGates = { s with gate := { s.gate with
      timer := if ∃ m ∈ s.mc.queue.head?, m.decided s.gate.marks = true then none else s.gate.timer } } := by
  unfold State.judgeGates
  cases s.mc.queue with
  | nil => simp
  | cons m rest => by_cases hd : m.decided s.gate.marks = true <;> simp [hd, State.updGate]

/-- A MARK of a recorded identity, and one that no entry it is judged by names, changes nothing (R52). -/
theorem State.markTake_of_ignored {s : State} {src : Addr} {t : Tag} {n : Nat} (o : MarkOutcome)
    (h : (∃ r ∈ s.gate.marks, r.source = src ∧ r.tag = t ∧ r.marker = n) ∨
      ¬∃ m ∈ s.markNamers, ∃ g ∈ m.gates, g.source = src ∧ g.tag = t ∧ g.marker = n) :
    s.markTake src t n o = s := by
  unfold State.markTake
  split
  · rfl
  · rename_i hnew
    rcases h with hknown | hunnamed
    · exact absurd (by simpa [and_assoc] using hknown) hnew
    · exact if_neg (mt namedBy_iff_exists_gate.mp hunnamed)

/-- A MARK of a new identity that an entry it is judged by names is recorded (R52, R54). -/
theorem State.markTake_of_named {s : State} {src : Addr} {t : Tag} {n : Nat} (o : MarkOutcome)
    (hnew : ¬∃ r ∈ s.gate.marks, r.source = src ∧ r.tag = t ∧ r.marker = n)
    (hnamed : ∃ m ∈ s.markNamers, ∃ g ∈ m.gates, g.source = src ∧ g.tag = t ∧ g.marker = n) :
    s.markTake src t n o = s.withMark src t n o := by
  unfold State.markTake
  rw [if_neg (by simpa [and_assoc] using hnew), if_pos (namedBy_iff_exists_gate.mpr hnamed), State.judgeGates_eq]
  rfl

/-- Settles O41: the frame is heard and the Gate Unit acts on it; only a PENDING head can have anything follow. -/
theorem markTaken : Obligations.MarkTaken := by
  intro src t n o s ⟨hears, hpresent⟩ hset c u known unstarted namers named marks decided recorded
  have hexec : exec c s = .next (u.markTake src t n o).finish := by
    refine congrArg Host.Outcome.next ((State.takeFrom_of_hears hears _ _).trans ?_)
    rw [State.hear_configured hpresent]
  have hrecorded : u.withMark src t n o = recorded := by
    simp only [State.withMark, Move.decided_iff]
    rfl
  refine ⟨fun hignored => ?_, fun hnew hnamed => ?_⟩
  · rw [hexec, State.markTake_of_ignored (s := u) o hignored, State.finish_of_heard (t := u) hset rfl rfl rfl rfl]
  · rw [hexec, State.markTake_of_named (s := u) o hnew hnamed, hrecorded]
    refine ⟨rfl, fun hp => congrArg _ (State.finish_of_settled_of_not_idle ?_ (s.afterFrame_not_idle src))⟩
    exact hset.of_not_pending hset.1 hp rfl rfl

end Sys2Proof.Machine
end

section
/-! The rate functions of the three kinds of profile (R61 to R64). -/

-- One proof after another: elaborated side by side they need more threads than the check allows.
set_option deprecated.oldSectionVars true

namespace Sys2Proof.Machine

/-! ## LINEAR -/

/-- Settles O5: the rate is R62's formula, and the manual's figures are its values. -/
theorem linearRate : Obligations.LinearRate := by
  refine ⟨fun _ _ _ _ => rfl, by decide, fun c => ?_, by decide, by decide, by decide⟩
  simp only [Slot.rate]
  omega

/-! ## SCURVE -/

/-- Between two climb counters of the ramp the numerator of R63 grows by a sum of products. -/
theorem scurve_add (c x y : Nat) :
    3 * (c + x) ^ 2 * (c + x + y) + 2 * c ^ 3 =
      3 * c ^ 2 * (c + x + y) + 2 * (c + x) ^ 3 + (3 * c * x ^ 2 + x ^ 3 + 6 * c * x * y + 3 * x ^ 2 * y) := by
  ring

/-- Over the ramp the difference 3c²A − 2c³ is not cut off at 0 (R63). -/
theorem two_mul_cube_le {a c : Nat} (h : c ≤ a) : 2 * c ^ 3 ≤ 3 * c ^ 2 * a :=
  calc 2 * c ^ 3 ≤ 3 * c ^ 3 := Nat.mul_le_mul_right _ (by decide)
    _ = 3 * c ^ 2 * c := by ring
    _ ≤ 3 * c ^ 2 * a := Nat.mul_le_mul_left _ h

/-- The numerator of R63 does not fall over the ramp. -/
theorem scurve_mono {a c d : Nat} (hcd : c ≤ d) (hda : d ≤ a) :
    3 * c ^ 2 * a - 2 * c ^ 3 ≤ 3 * d ^ 2 * a - 2 * d ^ 3 := by
  obtain ⟨x, rfl⟩ := Nat.exists_eq_add_of_le hcd
  obtain ⟨y, rfl⟩ := Nat.exists_eq_add_of_le hda
  have := scurve_add c x y
  omega

/-! ## Both ramps -/

/-- r(0) = Rs (R61). -/
theorem Slot.rate_ramp_zero (k : RampKind) (rs rc a : Nat) : (Slot.ramp k rs rc a).rate 0 = rs := by
  cases k <;> simp [Slot.rate]

/-- r(A) = Rc (R61). -/
theorem Slot.rate_ramp_length (k : RampKind) {rs rc a : Nat} (h : rs ≤ rc) (ha : 1 ≤ a) :
    (Slot.ramp k rs rc a).rate a = rc := by
  cases k with
  | linear =>
    rw [Slot.rate, Nat.mul_div_cancel _ ha]
    omega
  | scurve =>
    have hcube : 3 * a ^ 2 * a = 3 * a ^ 3 := by ring
    have hnum : 3 * a ^ 2 * a - 2 * a ^ 3 = a ^ 3 := by omega
    rw [Slot.rate, hnum, Nat.mul_div_cancel _ (Nat.pow_pos ha)]
    omega

/-- r never falls as c rises from 0 to A (R61). -/
theorem Slot.rate_ramp_mono (k : RampKind) (rs rc : Nat) {a c d : Nat} (hcd : c ≤ d) (hda : d ≤ a) :
    (Slot.ramp k rs rc a).rate c ≤ (Slot.ramp k rs rc a).rate d := by
  cases k with
  | linear => exact Nat.add_le_add_left (Nat.div_le_div_right (Nat.mul_le_mul_left _ hcd)) _
  | scurve => exact Nat.add_le_add_left (Nat.div_le_div_right (Nat.mul_le_mul_left _ (scurve_mono hcd hda))) _

/-- No rate of a ramp is above Rc (R61). -/
theorem Slot.rate_ramp_le (k : RampKind) {rs rc a c : Nat} (h : rs ≤ rc) (ha : 1 ≤ a) (hc : c ≤ a) :
    (Slot.ramp k rs rc a).rate c ≤ rc :=
  (Slot.rate_ramp_mono k rs rc hc le_rfl).trans_eq (Slot.rate_ramp_length k h ha)

/-- At a cap of Rc the kind of step depends on the counters and the ramp length alone, so on no kind of ramp (R68). -/
theorem runStep_ramp_of_cap_cruise (k : RampKind) {rs rc a : Nat} (L p : Nat) {c : Nat} (h : rs ≤ rc) (ha : 1 ≤ a)
    (hc : c ≤ a) :
    runStep (.ramp k rs rc a) L p c rc =
      if c + 2 ≤ L - p ∧ c < a then .climb else if c + 1 ≤ L - p then .hold else .descent := by
  have hclimb : (c + 2 ≤ L - p ∧ c < a ∧ (Slot.ramp k rs rc a).rate (c + 1) ≤ rc) ↔ c + 2 ≤ L - p ∧ c < a :=
    and_congr_right fun _ => and_iff_left_of_imp fun hca => Slot.rate_ramp_le k h ha hca
  have hhold : (c + 1 ≤ L - p ∧ (Slot.ramp k rs rc a).rate c ≤ rc) ↔ c + 1 ≤ L - p :=
    and_iff_left_of_imp fun _ => Slot.rate_ramp_le k h ha hc
  exact if_congr hclimb rfl (if_congr hhold rfl rfl)

/-- Settles O6: the difference is not cut off over the ramp, and at a cap of Rc every rate of either ramp is allowed. -/
theorem scurveRate : Obligations.ScurveRate := by
  refine ⟨fun _ _ _ _ => rfl, fun a c hc => ?_, by decide, fun rs rc a L p c h ha hc => ?_⟩
  · rw [Nat.cast_sub (two_mul_cube_le hc)]
    push_cast
    rfl
  · rw [runStep_ramp_of_cap_cruise .scurve L p h ha hc, runStep_ramp_of_cap_cruise .linear L p h ha hc]

/-! ## TABLE -/

@[simp] theorem presentEntries_map_some (es : List TableEntry) : presentEntries (es.map some) = es := by
  simp [presentEntries]

theorem tableRate_cons_cons (e f : TableEntry) (es : List TableEntry) (c : Nat) :
    tableRate (e :: f :: es) c = if c < e.count then e.rate else tableRate (f :: es) (c - e.count) := rfl

/-- An entry of a table gives the rate over its span, and the last one gives it from there on (R64). -/
theorem tableRate_append {before after : List TableEntry} {e : TableEntry} {c : Nat}
    (hc : (before.map (·.count)).sum ≤ c) (h : after = [] ∨ c < (before.map (·.count)).sum + e.count) :
    tableRate (before ++ e :: after) c = e.rate := by
  induction before generalizing c with
  | nil =>
    cases after with
    | nil => rfl
    | cons f after => exact if_pos (by simpa using h)
  | cons b before ih =>
    simp only [List.map_cons, List.sum_cons] at hc h
    have hbc : ¬c < b.count := by omega
    have hrest : tableRate (b :: before ++ e :: after) c = tableRate (before ++ e :: after) (c - b.count) := by
      cases before <;> exact if_neg hbc
    exact hrest.trans (ih (by omega) (h.imp_right fun _ => by omega))

/-- The rate that a table gives is that of one of its entries. -/
theorem tableRate_mem {es : List TableEntry} (h : es ≠ []) (c : Nat) : ∃ e ∈ es, tableRate es c = e.rate := by
  induction es generalizing c with
  | nil => exact absurd rfl h
  | cons e es ih =>
    cases es with
    | nil => exact ⟨e, by simp, rfl⟩
    | cons f es =>
      rw [tableRate_cons_cons]
      split
      · exact ⟨e, by simp, rfl⟩
      · obtain ⟨x, hx, hr⟩ := ih (by simp) (c - e.count)
        exact ⟨x, List.mem_cons_of_mem _ hx, hr⟩

/-- With rising rates the rate of a table never falls (R61, R126). -/
theorem tableRate_mono {es : List TableEntry} (h : es.Pairwise fun e f => e.rate < f.rate) {c d : Nat} (hcd : c ≤ d) :
    tableRate es c ≤ tableRate es d := by
  induction es generalizing c d with
  | nil => exact le_rfl
  | cons e es ih =>
    obtain ⟨he, hes⟩ := List.pairwise_cons.mp h
    cases es with
    | nil => exact le_rfl
    | cons f es =>
      rw [tableRate_cons_cons, tableRate_cons_cons]
      split
      · split
        · exact le_rfl
        · obtain ⟨x, hx, hr⟩ := tableRate_mem (es := f :: es) (by simp) (d - e.count)
          exact hr ▸ (he x hx).le
      · rw [if_neg (by omega)]
        exact ih hes (by omega)

theorem Slot.rate_table (es : List TableEntry) (c : Nat) : (Slot.table (es.map some)).rate c = tableRate es c := by
  simp [Slot.rate]

theorem Slot.rampLength_table (es : List TableEntry) :
    (Slot.table (es.map some)).rampLength = (es.map (·.count)).sum := by
  simp [Slot.rampLength]

theorem Slot.startRate_table (e : TableEntry) (rest : List TableEntry) :
    (Slot.table ((e :: rest).map some)).startRate = e.rate := by
  simp only [Slot.startRate, presentEntries_map_some]

theorem Slot.cruiseRate_table (init : List TableEntry) (e : TableEntry) :
    (Slot.table ((init ++ [e]).map some)).cruiseRate = e.rate := by
  simp only [Slot.cruiseRate, presentEntries_map_some, List.getLast?_concat]

/-- Settles O7: a table whose entries are all present is read entry by entry. -/
theorem Slot.tableRate : Obligations.TableRate := by
  refine ⟨?_, fun es => ⟨Slot.rampLength_table es, ?_, ?_⟩, by decide⟩
  · intro before after e c x start hc h
    exact (Slot.rate_table _ _).trans (tableRate_append hc h)
  · rintro e rest rfl
    exact Slot.startRate_table e rest
  · rintro init e rfl
    exact Slot.cruiseRate_table init e

/-- Settles O8: each kind of ramp by its formula, and a table by its rising rates. -/
theorem ratesNeverFall : Obligations.RatesNeverFall := by
  refine ⟨fun k rs rc a h ha => ⟨Slot.rate_ramp_zero k rs rc a, Slot.rate_ramp_length k h ha,
    fun c d hcd hda => Slot.rate_ramp_mono k rs rc hcd hda⟩, ?_⟩
  intro init last hne hcount hlast hrise x
  refine ⟨?_, ?_, fun c d hcd _ => ?_⟩
  · obtain ⟨e, init, rfl⟩ := List.exists_cons_of_ne_nil hne
    have hfirst : 0 < 0 + e.count := Nat.zero_add _ ▸ hcount e List.mem_cons_self
    exact ((Slot.rate_table _ 0).trans (tableRate_append (before := []) (Nat.le_refl 0) (.inr hfirst))).trans
      (Slot.startRate_table e (init ++ [last])).symm
  · rw [Slot.rate_table, Slot.rampLength_table, Slot.cruiseRate_table]
    exact tableRate_append (by simp) (.inl rfl)
  · rw [Slot.rate_table, Slot.rate_table]
    exact tableRate_mono hrise hcd

end Sys2Proof.Machine
end

section
/-! The lead steps of a move: their kinds, their pulses, and the start (R66 to R69, R75, R76). -/

-- One proof after another: elaborated side by side they need more threads than the check allows.
set_option deprecated.oldSectionVars true

namespace Sys2Proof.Machine

/-! ## The kind of a step -/

theorem runStep_eq_climb_iff (x : Slot) (L p c cap : Nat) :
    runStep x L p c cap = .climb ↔ c + 2 ≤ L - p ∧ c < x.rampLength ∧ x.rate (c + 1) ≤ cap := by
  unfold runStep
  split
  · exact iff_of_true rfl ‹_›
  · split <;> exact iff_of_false nofun ‹_›

theorem runStep_eq_hold_iff (x : Slot) (L p c cap : Nat) :
    runStep x L p c cap = .hold ↔
      ¬(c + 2 ≤ L - p ∧ c < x.rampLength ∧ x.rate (c + 1) ≤ cap) ∧ c + 1 ≤ L - p ∧ x.rate c ≤ cap := by
  unfold runStep
  split
  · exact iff_of_false nofun fun h => h.1 ‹_›
  · split
    · exact iff_of_true rfl ⟨‹_›, ‹_›⟩
    · exact iff_of_false nofun fun h => absurd h.2 ‹_›

/-- A step that is a descent found both the climb and the hold refused (R68). -/
theorem not_hold_of_runStep_descent {x : Slot} {L p c cap : Nat} (h : runStep x L p c cap = .descent) :
    ¬(c + 1 ≤ L - p ∧ x.rate c ≤ cap) := by
  intro hh
  by_cases hc : c + 2 ≤ L - p ∧ c < x.rampLength ∧ x.rate (c + 1) ≤ cap
  · exact nomatch h.symm.trans ((runStep_eq_climb_iff ..).mpr hc)
  · exact nomatch h.symm.trans ((runStep_eq_hold_iff ..).mpr ⟨hc, hh⟩)

/-- Settles O9: the cases are read in order, and a step decided in phase RUN can be made. -/
theorem stepRule : Obligations.StepRule := by
  intro x L p c cap hp
  refine ⟨runStep_eq_climb_iff x L p c cap, runStep_eq_hold_iff x L p c cap, fun h0 hd => ?_, fun hA hl => ?_⟩
  · exact not_hold_of_runStep_descent hd ⟨by omega, h0⟩
  · exact stepClimb_le (runStep_fits x L p c cap) hA hl

/-! ## Pulses -/

/-- A step without a pulse leaves the signed pulses alone, and a pulse moves them with the position (R75). -/
theorem Lead.stepped_offset {m : Move} {l : Lead} (k : StepKind) (hacc : l.acc < m.lead) :
    (l.stepped m k).position - signedPulses m.dist (l.stepped m k).pulses =
      l.position - signedPulses m.dist l.pulses := by
  unfold Lead.stepped
  cases hit : makesPulse m.lead l.acc m.dist with
  | false => rfl
  | true =>
    have hd : m.dist ≠ 0 := by
      simp only [makesPulse, decide_eq_true_eq] at hit
      omega
    simp only [if_true, pulseTo, signedPulses]
    split <;> split <;> omega

/-- After a run of steps: the accumulator is below L, the pulses and the accumulator are those of the steps made, and the
position has moved with the signed pulses (R75). -/
theorem Lead.foldl_stepped {m : Move} (hd : m.dist.natAbs ≤ m.lead) (ks : List StepKind) {l : Lead} {n : Nat}
    (hacc : l.acc < m.lead) (hn : l.pulses * m.lead + l.acc = n * m.dist.natAbs) :
    let t := ks.foldl (fun x k => x.stepped m k) l
    t.acc < m.lead ∧ t.pulses * m.lead + t.acc = (n + ks.length) * m.dist.natAbs ∧ t.p = l.p + ks.length ∧
    t.position - signedPulses m.dist t.pulses = l.position - signedPulses m.dist l.pulses := by
  induction ks generalizing l n with
  | nil => exact ⟨hacc, hn, rfl, rfl⟩
  | cons k ks ih =>
    obtain ⟨hacc', hn'⟩ := pulses_stepped hd hacc hn
    obtain ⟨h1, h2, h3, h4⟩ := ih (l := l.stepped m k) hacc' hn'
    have hlen (j : Nat) : j + 1 + ks.length = j + (k :: ks).length := by rw [List.length_cons, Nat.add_assoc, Nat.add_comm 1]
    exact ⟨h1, h2.trans (by rw [hlen]), h3.trans (hlen l.p), h4.trans (Lead.stepped_offset k hacc)⟩

theorem signedPulses_natAbs (d : Int) : signedPulses d d.natAbs = d := by
  unfold signedPulses
  split <;> omega

/-- Settles O10: by the run of steps from an empty accumulator, quotient and remainder being unique. -/
theorem pulsesSpreadEvenly : Obligations.PulsesSpreadEvenly := by
  intro m l ks hL hd hacc hpul t
  obtain ⟨ha, hn, hp, hoff⟩ := Lead.foldl_stepped hd ks (l := l) (n := 0) (by omega) (by simp [hacc, hpul])
  have hpos : t.position = l.position + signedPulses m.dist t.pulses := by
    have h0 : signedPulses m.dist 0 = 0 := by simp [signedPulses]
    have hoff : t.position - signedPulses m.dist t.pulses = l.position - 0 := hoff.trans (by rw [hpul, h0])
    omega
  have hn : t.acc + m.lead * t.pulses = ks.length * m.dist.natAbs := by
    rw [← Nat.zero_add ks.length, ← hn, Nat.mul_comm, Nat.add_comm]
  obtain ⟨hdiv, hmod⟩ := (Nat.div_mod_unique hL).mpr ⟨hn, ha⟩
  refine ⟨hdiv.symm, hmod.symm, hpos, hp, fun hlen => ?_⟩
  have hall : t.pulses = m.dist.natAbs := by rw [← hdiv, hlen, Nat.mul_div_cancel_left _ hL]
  exact ⟨hall, by rw [hpos, hall, signedPulses_natAbs]⟩

/-! ## The start -/

/-- At climb counter 0 every kind of step runs at r(0) (R69). -/
theorem stepRate_zero (x : Slot) (k : StepKind) : stepRate x 0 k = x.rate 0 := by
  cases k <;> rfl

/-- Settles O11: the start writes each block once, and the first step runs at r(0) whatever its kind. -/
theorem startOfAMove : Obligations.StartOfAMove := by
  intro m s cap kind
  have hstep : decideStep (s.profileOf m) .run m.lead 0 0 cap = { kind, rate := (s.profileOf m).rate 0 } :=
    congrArg (PendingStep.mk kind) (stepRate_zero _ kind)
  rw [← hstep]
  rfl

end Sys2Proof.Machine
end

section
/-! SETPOS, and the scale addressed to this node (R4, R67, R71, R78, R84). -/

-- One proof after another: elaborated side by side they need more threads than the check allows.
set_option deprecated.oldSectionVars true

namespace Sys2Proof.Machine

/-! ## SETPOS -/

theorem positionSettable_iff (st : NodeState) : positionSettable st = true ↔ st ∈ [NodeState.idle, .pending, .held] := by
  cases st <;> decide

/-- The planned end of a node with no move in hand (R4). -/
theorem State.plannedEnd_of_not_moving {s : State} (h : s.mc.state.moving = false) :
    s.plannedEnd = if ∃ m ∈ s.mc.queue, m.kind = .seek then none
      else some (s.lead.position + (s.mc.queue.map (·.dist)).sum) := by
  unfold State.plannedEnd
  refine if_congr (by simp) rfl (congrArg some ?_)
  cases s.head <;> simp [h]

/-- The planned end of a node with no move in hand moves with its position (R4, R78). -/
theorem State.plannedEnd_of_position {s t : State} (hs : s.mc.state.moving = false) (hmc : t.mc = s.mc) :
    t.plannedEnd = s.plannedEnd.map (· + (t.lead.position - s.lead.position)) := by
  rw [State.plannedEnd_of_not_moving hs, State.plannedEnd_of_not_moving (hmc ▸ hs), hmc]
  split
  · rfl
  · simp only [Option.map_some, Option.some.injEq]
    omega

/-- Settles O34: the request sets the position counter, and the planned end is read from it. -/
theorem setposMovesThePlannedEnd : Obligations.SetposMovesThePlannedEnd := by
  intro src num v s h
  have hstate : (s.opened src).mc.state = s.mc.state := rfl
  refine ⟨fun hst => ?_, fun hst => ⟨_, rfl, ?_, ?_⟩⟩
  · refine congrArg Host.Outcome.next (State.request_refused h num .setpos _ ?_)
    simp [State.setposAct, mt (positionSettable_iff _).mp hst]
  all_goals
    have hm : s.mc.state.moving = false := by
      simp only [List.mem_cons, List.not_mem_nil, or_false] at hst
      rcases hst with hst | hst | hst <;> rw [hst] <;> rfl
    have hset : doSetpos src num v s = { s.acked src num .setpos none with lead := { s.lead with position := v.toInt } } := by
      rw [doSetpos, State.request_of_takes h, State.setposAct, hstate, if_pos ((positionSettable_iff _).mpr hst)]
      exact State.offer_of_not_idle (by simp)
  · exact hset
  · rw [hset]
    refine ⟨State.plannedEnd_of_position hm rfl, ?_, fun x hx => ?_⟩
    · rw [State.plannedEnd_of_not_moving hm]
      split <;> simp [*]
    · rw [State.plannedEnd_of_not_moving hm] at hx
      split at hx
      · cases hx
      · exact (Option.some.inj hx).symm

/-! ## The cap and SCALE -/

/-- A scale of at most 100 percent caps a ramp from Rs to Rc (R67). -/
theorem Slot.cap_ramp (k : RampKind) (a : Nat) {rs rc scale : Nat} (h : rs ≤ rc) (hs : scale ≤ 100) :
    (Slot.ramp k rs rc a).cap scale = (if scale * rc / 100 < rs then rs else scale * rc / 100) ∧
    rs ≤ (Slot.ramp k rs rc a).cap scale ∧ (Slot.ramp k rs rc a).cap scale ≤ rc := by
  have hle : scale * rc / 100 ≤ rc :=
    (Nat.div_le_div_right (Nat.mul_le_mul_right rc hs)).trans_eq (Nat.mul_div_cancel_left rc (by decide))
  have hcap : (Slot.ramp k rs rc a).cap scale = max (scale * rc / 100) rs := rfl
  rw [hcap]
  split <;> omega

/-- A solo head's cap follows the solo scale while its phase is RUN (R71, R84). -/
theorem State.scaleAct_eq {s : State} {p : Nat} (hu : s.mc.state ≠ .unconfigured) (hp : 5 ≤ p ∧ p ≤ 100) :
    s.scaleAct p =
      ({ s with lead := { s.lead with
          soloScale := p
          cap := match s.mc.queue with
            | m :: _ => if m.group = none ∧ s.lead.phase = .run then some ((s.store.slots.get m.slot).cap p) else s.lead.cap
            | [] => s.lead.cap } }, .ack none) := by
  have hok : (!percentOk p) = false := by rw [(percentOk_iff p).mpr hp]; rfl
  unfold State.scaleAct
  rw [if_neg hu, hok, if_neg (by decide)]
  cases hq : s.mc.queue with
  | nil => simp [State.headGroup, State.head, State.recap, hq, State.updLead]
  | cons m rest =>
    by_cases hm : m.group = none
    · by_cases hr : s.lead.phase = .run
      · simp [State.headGroup, State.head, State.recap, State.scaleOf, hq, hm, hr, State.profileOf, State.updLead]
      · simp [State.headGroup, State.head, State.recap, hq, hm, hr, State.updLead]
    · simp [State.headGroup, State.head, hq, hm, State.updLead]

/-- Settles O35: the cap of a ramp lies within its rates, and the request is refused or stores the solo scale. -/
theorem capAndSoloScale : Obligations.CapAndSoloScale := by
  refine ⟨fun k rs rc a scale h hs => Slot.cap_ramp k a h hs, by decide, by decide, by decide, by decide, by decide,
    fun src num percent s h => congrArg Host.Outcome.next ?_⟩
  have hstate : (s.opened src).mc.state = s.mc.state := rfl
  show s.request src num .scale (State.scaleAct percent) State.offer = _
  split
  · refine State.request_refused h num .scale _ ?_
    rw [State.scaleAct, hstate, if_pos ‹_›]
  · split
    · rename_i hu hp
      refine State.request_refused h num .scale _ ?_
      rw [State.scaleAct, hstate, if_neg hu, Bool.eq_false_iff.mpr (mt (percentOk_iff percent).mp hp)]
      rfl
    · rename_i hu hp
      rw [State.request_of_takes h, State.scaleAct_eq (s := s.opened src) hu (not_not.mp hp), State.offer_of_not_idle (by simp)]
      rfl

end Sys2Proof.Machine
end

section
/-! A lead step that ends neither the move nor its descent, with the markers it reaches (R46, R48, R68 to R70, R75, R76). -/

-- One proof after another: elaborated side by side they need more threads than the check allows.
set_option deprecated.oldSectionVars true

namespace Sys2Proof.Machine

/-! ## Markers and the lead -/

theorem State.updOut_updLead (f : Outputs → Outputs) (k : Lead → Lead) (s : State) :
    (s.updLead k).updOut f = (s.updOut f).updLead k := rfl

theorem State.queueSync_updLead (f : OutFrame) (k : Lead → Lead) (s : State) :
    (s.updLead k).queueSync f = (s.queueSync f).updLead k := by
  unfold State.queueSync
  rw [State.updLead_fq]
  split <;> rfl

theorem State.reachAll_updLead (t : Tag) (ms : List Marker) (f : Lead → Lead) (s : State) :
    (s.updLead f).reachAll t ms = (s.reachAll t ms).updLead f := by
  induction ms generalizing s with
  | nil => rfl
  | cons m ms ih =>
    rw [State.reachAll, State.reachAll, State.queueSync_updLead, State.updOut_updLead, ih]

/-- Markers are reached apart from the Lead Generator (R46). -/
theorem State.reach_updLead (pick : Marker → Bool) (f : Lead → Lead) (s : State) :
    (s.updLead f).reach pick = (s.reach pick).updLead f := by
  unfold State.reach
  rw [State.updLead_gate]
  split
  · rfl
  · rw [State.reachAll_updLead]
    rfl

/-- The output lines after several markers were reached (R48). -/
theorem State.reachAll_out (t : Tag) (ms : List Marker) (s : State) :
    (s.reachAll t ms).out =
      { s.out with mko0 := s.out.mko0 || ms.any fun k => decide (k.line = some .mko0)
                   mko1 := s.out.mko1 || ms.any fun k => decide (k.line = some .mko1) } := by
  induction ms generalizing s with
  | nil => simp [State.reachAll]
  | cons m ms ih =>
    rw [State.reachAll, ih]
    cases hl : m.line with
    | none => simp [hl, Outputs.light]
    | some l => cases l <;> simp [hl, Outputs.light]

theorem any_ascending (p : Marker → Bool) (ms : List Marker) : (ascending ms).any p = ms.any p := by
  rw [Bool.eq_iff_iff, List.any_eq_true, List.any_eq_true]
  exact exists_congr fun m => and_congr_left fun _ => mem_ascending

/-- MARKs that fit their share are queued, the lines lit, and nothing else changes (R46, R48, R151). -/
theorem State.reachAll_of_room {s : State} (t : Tag) (ms : List Marker) (h : s.fq.count .sync + ms.length ≤ 6) :
    s.reachAll t ms = { s with fq := s.fq.pushAll (ms.map fun k => .mark t k.number .reached)
                               out := (s.reachAll t ms).out } := by
  induction ms generalizing s with
  | nil => simp [State.reachAll]
  | cons k ms ih =>
    have hfq := State.reachAll_fq_of_room t (k :: ms) h
    rw [List.length_cons] at h
    rw [State.reachAll, State.queueSync_of_room _ (by omega)] at hfq ⊢
    rw [← hfq, ih]
    · rfl
    · simp only [State.updOut_fq, State.updFq_fq, ← FrameQueue.push_eq_pushAll, FrameQueue.count_push, OutFrame.cls, if_true]
      omega

/-- Markers of the move in hand become reached with room for their MARKs: the Frame Queue, the unreached markers and the
marker lines change, and nothing else (R46, R48, R151). -/
theorem State.reach_of_room {s : State} {h : HeldMarkers} (hh : s.gate.held = some h) (pick : Marker → Bool)
    (hroom : s.fq.count .sync + (h.unreached.filter pick).length ≤ 6) :
    s.reach pick =
      { s with
        fq := s.fq.pushAll ((ascending (h.unreached.filter pick)).map fun k => .mark h.tag k.number .reached)
        gate := { s.gate with held := some { h with unreached := h.unreached.filter fun k => !pick k } }
        out := { s.out with
          mko0 := s.out.mko0 || (h.unreached.filter pick).any fun k => decide (k.line = some .mko0)
          mko1 := s.out.mko1 || (h.unreached.filter pick).any fun k => decide (k.line = some .mko1) } } := by
  rw [State.reach_of_held hh, State.reachAll_of_room _ _ (by rwa [length_ascending]), State.reachAll_out, any_ascending,
    any_ascending]
  rfl

/-- With no marker picked nothing is reached (R46). -/
theorem State.reach_of_none {s : State} {h : HeldMarkers} (hh : s.gate.held = some h) {pick : Marker → Bool}
    (hnone : h.unreached.filter pick = []) : s.reach pick = s := by
  have hall : (h.unreached.filter fun k => !pick k) = h.unreached := by simpa using hnone
  rw [State.reach_of_held hh, hnone, hall, ← hh]
  rfl

/-! ## The step -/

/-- The node after the lead step `st` of its move `m` has been made, before the markers are judged (points 1 and 2 of R70). -/
def State.madeStep (s : State) (m : Move) (st : PendingStep) : State :=
  (s.stepLine m).updLead fun l => l.stepped m st.kind

theorem State.madeStep_eq (s : State) (m : Move) (st : PendingStep) :
    s.madeStep m st = { s with
      lead := s.lead.stepped m st.kind
      out := { s.out with
        stepPulses := if makesPulse m.lead s.lead.acc m.dist then s.out.stepPulses + 1 else s.out.stepPulses } } := by
  unfold State.madeStep State.stepLine
  split <;> rfl

/-- The lead step of a move in hand: the step is made, its markers reached, and the move goes on or ends (R70). -/
theorem State.leadStep_of_step {s : State} {m : Move} {rest : List Move} {st : PendingStep} (hq : s.mc.queue = m :: rest)
    (hs : s.lead.step = some st) :
    s.leadStep = (((s.madeStep m st).reach fun k => decide (k.position = s.lead.p + 1)).afterStep m).finish := by
  have hp : ((s.stepLine m).updLead fun l => l.stepped m st.kind).lead.p = s.lead.p + 1 := by
    obtain ⟨-, -, -, -, -, -, hl⟩ := s.stepLine_frame m
    simp [Lead.stepped, hl]
  simp only [State.leadStep, State.head, hs, hq, List.head?_cons, hp]
  rfl

/-- The next step is a descent in phase DESCENT, and otherwise the one that R68 gives (R68, R69, R72). -/
theorem decideStep_eq (x : Slot) (ph : Phase) (L p c cap : Nat) :
    decideStep x ph L p c cap =
      let kind := if ph = .descent then .descent else runStep x L p c cap
      { kind, rate := stepRate x c kind } := by
  cases ph <;> rfl

/-- A step that ends neither the move nor its descent decides the next step (point 6 of R70). -/
theorem State.afterStep_of_goesOn {s : State} {m : Move} (hp : s.lead.p ≠ m.lead)
    (hd : ¬(s.lead.phase = .descent ∧ s.lead.c = 0)) : s.afterStep m = s.decideNext m := by
  rw [State.afterStep, if_neg hp, if_neg hd]

/-- The next step is decided apart from the markers. -/
theorem State.decideNext_reach (pick : Marker → Bool) (m : Move) (s : State) :
    (s.reach pick).decideNext m = (s.decideNext m).reach pick := by
  have hprof : (s.reach pick).profileOf m = s.profileOf m := by simp [State.profileOf]
  rw [State.decideNext, State.decideNext, State.reach_updLead, hprof]

/-- With nothing queued no frame is begun (R137). -/
theorem State.offer_of_none_queued {s : State} (h : ∀ e ∈ s.fq.entries, e.status ≠ .queued) : s.offer = s := by
  have hno (k : FrameClass) : s.fq.hasQueued k = false := by
    simp only [FrameQueue.hasQueued, List.any_eq_false, Bool.and_eq_true, decide_eq_true_eq]
    exact fun e he hk => h e he hk.1
  rcases s.offer_cases with ⟨he, -⟩ | ⟨k, -, -, -, hk, -⟩
  · exact he
  · simp [FrameQueue.lowestClass, hno] at hk

/-- Settles O12: the step decides the next one whatever markers it reaches, and a moving node has nothing left to do but what
a full SYNC share brings. -/
theorem leadStepGoesOn : Obligations.LeadStepGoesOn := by
  intro s m rest st h hset hm hq hs hp hh hend hit c kind gone now later order reached
  have hgone : (s.madeStep m st).decideNext m = gone := by
    rw [State.madeStep_eq, State.decideNext]
    simp only [decideStep_eq]
    rfl
  have hexec : exec .leadStep s = .next (gone.reach fun k => decide (k.position = s.lead.p + 1)).finish := by
    refine congrArg Host.Outcome.next ((State.leadStep_of_step hq hs).trans ?_)
    rw [State.afterStep_of_goesOn, State.decideNext_reach, hgone]
    · simp [State.madeStep_eq, Lead.stepped]
      omega
    · simpa [State.madeStep_eq, Lead.stepped] using hend
  have hfq : reached.fq = s.fq.pushAll (order.map fun k => .mark h.tag k.number .reached) := by
    rw [FrameQueue.pushAll, List.map_map]
    rfl
  have hne : s.mc.state ≠ .pending := by
    intro hpend
    simp [hpend, NodeState.moving] at hm
  refine ⟨fun hnow => ?_, fun hroom => ?_, fun _ => hexec⟩
  · have hsettled : gone.settled := hset.of_frame rfl rfl le_rfl rfl
    rw [hexec, State.reach_of_none (s := gone) hh hnow, State.finish_of_settled hsettled]
    refine ⟨rfl, fun hidle => congrArg _ ?_⟩
    rcases hidle with hidle | hnone
    · exact State.offer_of_not_idle (s := gone) (Nat.ne_of_lt hidle)
    · exact State.offer_of_none_queued (s := gone) hnone
  · have hreach : (gone.reach fun k => decide (k.position = s.lead.p + 1)) = reached := by
      refine (State.reach_of_room (s := gone) hh _ hroom).trans ?_
      have hlater : (h.unreached.filter fun k => !decide (k.position = s.lead.p + 1)) = later :=
        List.filter_congr fun k _ => decide_not.symm
      rw [hlater]
      exact congrArg (fun q => { reached with fq := q }) hfq.symm
    have hsettled : reached.settled := by
      refine hset.of_not_pending hset.1 hne rfl ?_
      rw [hfq]
      exact FrameQueue.count_pushAll_of_ne (by simp [OutFrame.cls]) _
    rw [hexec, hreach, State.finish_of_settled hsettled]
    exact ⟨rfl, fun hidle => congrArg _ (State.offer_of_not_idle (s := reached) (Nat.ne_of_lt hidle))⟩

end Sys2Proof.Machine
end

section
/-! SUPPORT. What the end of an event can change, whatever it comes to (R12, R94, R101, R152, R155): which frames it can queue,
and what it keeps of the node. -/

-- One proof after another: elaborated side by side they need more threads than the check allows.
set_option deprecated.oldSectionVars true

namespace Sys2Proof.Machine

/-! ## Frames that last -/

/-- The frames that the end of an event neither removes nor changes: all but HALT, READY and BEACON (R32, R94, R118). -/
def OutFrame.lasts : OutFrame → Bool
  | .halt .. => false
  | .ready .. => false
  | .beacon .. => false
  | _ => true

theorem OutFrame.lasts_of_isReady {f : OutFrame} (h : f.isReady = true) : f.lasts = false := by
  cases f <;> simp_all [OutFrame.isReady, OutFrame.lasts]

theorem OutFrame.lasts_of_isHaltFor {g : GroupNo} {f : OutFrame} (h : f.isHaltFor g = true) : f.lasts = false := by
  cases f <;> simp_all [OutFrame.isHaltFor, OutFrame.lasts]

theorem OutFrame.refreshed_of_lasts {st : NodeState} {d : Nat} {f : OutFrame} (h : f.lasts = true) : f.refreshed st d = f := by
  cases f <;> simp_all [OutFrame.lasts, OutFrame.refreshed]

@[simp] theorem OutFrame.refreshed_lasts (st : NodeState) (d : Nat) (f : OutFrame) : (f.refreshed st d).lasts = f.lasts := by
  cases f <;> rfl

namespace FrameQueue

/-- The lasting frames of the queue, oldest first. -/
def lasting (q : FrameQueue) : List OutFrame := (q.entries.map (·.frame)).filter OutFrame.lasts

theorem mem_lasting {q : FrameQueue} {f : OutFrame} (hf : f.lasts = true) : f ∈ q.lasting ↔ ∃ e ∈ q.entries, e.frame = f := by
  simp [lasting, hf]

theorem lasting_push (q : FrameQueue) (f : OutFrame) :
    (q.push f).lasting = q.lasting ++ if f.lasts = true then [f] else [] := by
  cases hf : f.lasts <;> simp [lasting, push, hf]

theorem lasting_changeHalt (q : FrameQueue) (g : GroupNo) (n : NoticeContent) : (q.changeHalt g n).lasting = q.lasting := by
  unfold lasting changeHalt
  dsimp only
  induction q.entries with
  | nil => rfl
  | cons e es ih =>
    simp only [List.map_cons, List.filter_cons, ih]
    split
    · rename_i h
      have hn : (OutFrame.halt g n.kind n.cause n.tag).lasts = false := rfl
      simp [OutFrame.lasts_of_isHaltFor h.2, hn]
    · rfl

theorem lasting_removeReady (q : FrameQueue) : (q.removeQueued OutFrame.isReady).lasting = q.lasting := by
  simp only [lasting, removeQueued, List.filter_map, List.filter_filter, Function.comp_def]
  refine congrArg _ (List.filter_congr fun e _ => ?_)
  cases hr : e.frame.isReady
  · simp
  · simp [OutFrame.lasts_of_isReady hr]

theorem lasting_beginOldest (k : FrameClass) (st : NodeState) (d : Nat) (es : List Entry) :
    ((beginOldest k st d es).map (·.frame)).filter OutFrame.lasts = (es.map (·.frame)).filter OutFrame.lasts := by
  induction es with
  | nil => rfl
  | cons e es ih =>
    unfold beginOldest
    split
    · cases hr : e.frame.lasts <;> simp [hr, OutFrame.refreshed_of_lasts]
    · simp [List.filter_cons, ih]

/-- Lasting frames have joined the queue at its end, and the MARKs among them are of moves with these tags. -/
def Gains (ts : List Tag) (q r : FrameQueue) : Prop :=
  ∃ fs, r.lasting = q.lasting ++ fs ∧ ∀ t n o, OutFrame.mark t n o ∈ fs → t ∈ ts

variable {ts us : List Tag} {q r v : FrameQueue}

theorem Gains.of_eq (h : r.lasting = q.lasting) : q.Gains ts r := ⟨[], by simp [h], by simp⟩

theorem Gains.refl (q : FrameQueue) : q.Gains ts q := .of_eq rfl

theorem Gains.trans (h : q.Gains ts r) (h' : r.Gains us v) (hs : us ⊆ ts) : q.Gains ts v := by
  obtain ⟨fs, hf, hm⟩ := h
  obtain ⟨fs', hf', hm'⟩ := h'
  refine ⟨fs ++ fs', by rw [hf', hf, List.append_assoc], fun t n o h => ?_⟩
  rcases List.mem_append.mp h with h | h
  · exact hm t n o h
  · exact hs (hm' t n o h)

/-- A lasting frame of the queue is one of the longer queue. -/
theorem Gains.holds (h : q.Gains ts r) {f : OutFrame} (hf : f.lasts = true) (he : ∃ e ∈ q.entries, e.frame = f) :
    ∃ e ∈ r.entries, e.frame = f := by
  obtain ⟨fs, hr, -⟩ := h
  rw [← mem_lasting hf] at he ⊢
  exact hr ▸ List.mem_append_left fs he

/-- A MARK of a tag that no gained MARK has was in the queue before. -/
theorem Gains.holds_mark_before (h : q.Gains ts r) {t : Tag} {n : Nat} {o : MarkOutcome} (ht : t ∉ ts)
    (he : ∃ e ∈ r.entries, e.frame = .mark t n o) : ∃ e ∈ q.entries, e.frame = .mark t n o := by
  obtain ⟨fs, hr, hm⟩ := h
  rw [← mem_lasting rfl] at he ⊢
  exact (List.mem_append.mp (hr ▸ he)).resolve_right fun hf => ht (hm t n o hf)

theorem gains_push (q : FrameQueue) {f : OutFrame} (h : ∀ t n o, f = .mark t n o → t ∈ ts) : q.Gains ts (q.push f) := by
  refine ⟨_, q.lasting_push f, fun t n o hm => ?_⟩
  split at hm
  · exact h t n o (List.mem_singleton.mp hm).symm
  · cases hm

end FrameQueue

/-! ## What follows -/

theorem NodeState.ne_stopping_of_not_busy {st : NodeState} (h : st.busy = false) : st ≠ .stopping := by
  rintro rfl
  cases h

/-- `t` is the state `s` after something that belongs to the end of an event: no move joined the queue, the node began no
descent, only MARKs of queued moves were queued beside other frames, and the solo scale, DREN and the group table stayed. -/
structure State.Follows (s t : State) : Prop where
  queue    : t.mc.queue ⊆ s.mc.queue
  stopping : s.mc.state ≠ .stopping → t.mc.state ≠ .stopping
  frames   : s.fq.Gains (s.mc.queue.map (·.tag)) t.fq
  solo     : t.lead.soloScale = s.lead.soloScale
  dren     : t.out.dren = s.out.dren
  groups   : t.roll.groups = s.roll.groups

namespace State

theorem Follows.refl (s : State) : s.Follows s := ⟨List.Subset.refl _, id, .refl _, rfl, rfl, rfl⟩

theorem Follows.trans {s t u : State} (h : s.Follows t) (h' : t.Follows u) : s.Follows u where
  queue := List.Subset.trans h'.queue h.queue
  stopping := h'.stopping ∘ h.stopping
  frames := h.frames.trans h'.frames (List.map_subset _ h.queue)
  solo := h'.solo.trans h.solo
  dren := h'.dren.trans h.dren
  groups := h'.groups.trans h.groups

/-! ## Frames queued -/

theorem queueSync_gains {ts : List Tag} {f : OutFrame} (h : ∀ t n o, f = .mark t n o → t ∈ ts) (s : State) :
    s.fq.Gains ts (s.queueSync f).fq := by
  unfold queueSync
  split
  · exact s.fq.gains_push h
  · exact .refl _

theorem tag_mem_of_mark_eq {ts : List Tag} {t : Tag} (ht : t ∈ ts) (k : Nat) (x : MarkOutcome) (u : Tag) (n : Nat) (o : MarkOutcome)
    (h : OutFrame.mark t k x = .mark u n o) : u ∈ ts := by
  cases h
  exact ht

theorem reachAll_gains {ts : List Tag} {t : Tag} (ht : t ∈ ts) (ms : List Marker) (s : State) :
    s.fq.Gains ts (s.reachAll t ms).fq := by
  induction ms generalizing s with
  | nil => exact .refl _
  | cons m ms ih => exact (queueSync_gains (tag_mem_of_mark_eq ht m.number .reached) s).trans (ih _) (List.Subset.refl _)

theorem voidAll_gains {ts : List Tag} {t : Tag} (ht : t ∈ ts) (ms : List Marker) (s : State) :
    s.fq.Gains ts (s.voidAll t ms).fq := by
  induction ms generalizing s with
  | nil => exact .refl _
  | cons m ms ih => exact (queueSync_gains (tag_mem_of_mark_eq ht m.number .void) s).trans (ih _) (List.Subset.refl _)

theorem withdraw_gains {ts : List Tag} (m : Move) (o : RetireOutcome) (c : Option Cause) (s : State) :
    s.fq.Gains ts (s.withdraw m o c).fq := by
  rcases s.withdraw_cases m o c with ⟨-, h⟩ | ⟨g, k, -, h⟩
  · rw [h]
    exact .refl _
  · rw [h]
    exact queueSync_gains (f := .withdraw g m.tag k) nofun s

theorem report_gains {ts : List Tag} (w : WaitingRecord) (s : State) : s.fq.Gains ts (s.report w).fq := by
  unfold report
  split
  · exact s.fq.gains_push nofun
  · exact .refl _

/-! ## The end of the head -/

theorem retire_follows (o : RetireOutcome) (c : Option Cause) (s : State) : s.Follows (s.retire o c) := by
  cases hq : s.mc.queue with
  | nil =>
    rw [retire, hq]
    exact .refl s
  | cons m rest =>
    refine ⟨by simp [List.tail_subset], fun _ => NodeState.ne_stopping_of_not_busy (retire_not_busy hq o c), ?_,
      by simp, by simp, by simp⟩
    rw [retire_fq hq]
    exact ((s.report_gains _).trans (withdraw_gains m o c _) (List.Subset.refl _)).trans
      (voidAll_gains (by simp [hq]) _ _) (List.Subset.refl _)

theorem removeReady_follows (s : State) : s.Follows s.removeReady :=
  ⟨by simp, by simp, .of_eq s.fq.lasting_removeReady, by simp, by simp, by simp⟩

theorem addCause_follows (c : Cause) (s : State) : s.Follows (s.addCause c) :=
  ⟨by simp, by simp, by simpa using .refl _, by simp, by simp, by simp⟩

theorem addCauses_follows (cs : List Cause) (s : State) : s.Follows (s.addCauses cs) := by
  induction cs generalizing s with
  | nil => exact .refl s
  | cons c cs ih => exact (s.addCause_follows c).trans (ih _)

theorem hold_follows (c : Cause) (s : State) : s.Follows (s.hold c) :=
  ⟨by simp, fun _ => nofun, by simpa using .refl _, by simp, by simp, by simp⟩

theorem giveUp_follows (o : RetireOutcome) (c : Cause) (later : List Cause) (s : State) : s.Follows (s.giveUp o c later) :=
  (s.removeReady_follows.trans (retire_follows o _ _)).trans (addCauses_follows later _)

theorem stopLead_follows (s : State) : s.Follows s.stopLead := ⟨by simp, by simp, .refl _, rfl, rfl, rfl⟩

theorem haltMove_follows (c : Cause) (s : State) : s.Follows (s.haltMove c) := by
  unfold haltMove
  split
  · split <;> exact s.stopLead_follows.trans (retire_follows _ _ _)
  · exact .refl s

theorem raiseNotice_follows (g : GroupNo) (n : NoticeContent) (d : Bool) (s : State) : s.Follows (s.raiseNotice g n d) := by
  refine ⟨by simp, by simp, .of_eq ?_, by simp, by simp, by simp⟩
  unfold raiseNotice
  split
  · rfl
  · split
    · rfl
    · exact s.fq.lasting_changeHalt _ _

theorem stopMove_follows (c : Cause) (d : Bool) (s : State) : s.Follows (s.stopMove c d) := by
  unfold stopMove notify
  split
  · split
    · exact (s.haltMove_follows c).trans (raiseNotice_follows _ _ _ _)
    · exact s.haltMove_follows c
  · exact .refl s

/-! ## The LINK cause -/

theorem linkCause_follows (s : State) : s.Follows s.linkCause := by
  unfold linkCause
  split
  case h_1 => exact .refl s
  case h_2 | h_3 => exact s.hold_follows _
  case h_4 => split <;> exact s.giveUp_follows _ _ _
  case h_5 => exact s.giveUp_follows _ _ _
  case h_6 | h_7 => exact s.stopMove_follows _ _
  case h_8 => exact s.addCause_follows _

theorem linkDone_follows (b : Bool) (s : State) : s.Follows (s.updMc fun m => { m with linkDue := b }) :=
  ⟨by simp, by simp, .refl _, rfl, rfl, rfl⟩

theorem giveLink_follows (s : State) : s.Follows s.giveLink := by
  unfold giveLink
  split
  · exact s.linkCause_follows.trans (linkDone_follows false _)
  · exact .refl s

/-! ## Arming -/

theorem announce_follows (g : GroupNo) (m : Move) (s : State) : s.Follows (s.announce g m) := by
  unfold announce
  split
  · exact ⟨by simp, fun _ => nofun, s.fq.gains_push nofun, rfl, rfl, rfl⟩
  · exact s.linkDone_follows true

theorem startMove_follows (m : Move) (s : State) : s.Follows (s.startMove m) :=
  ⟨by simp, fun _ => nofun, .refl _, rfl, rfl, rfl⟩

/-- Markers are reached of the move in hand (R46). -/
theorem reach_follows {s : State} {h : HeldMarkers} (hh : s.gate.held = some h) (ht : h.tag ∈ s.mc.queue.map (·.tag))
    (pick : Marker → Bool) : s.Follows (s.reach pick) := by
  refine ⟨by simp, by simp, ?_, by simp, ?_, by simp⟩
  · rw [reach_of_held hh]
    exact reachAll_gains ht _ s
  · rw [reach_of_held hh, updGate_out, reachAll_out]

theorem completeSeek_follows {s : State} {h : HeldMarkers} (hh : s.gate.held = some h)
    (ht : h.tag ∈ s.mc.queue.map (·.tag)) : s.Follows s.completeSeek := by
  have hl : s.Follows (s.stopLead.updLead fun l => { l with position := s.homeValue }) :=
    ⟨by simp, by simp, .refl _, rfl, rfl, rfl⟩
  exact (hl.trans (reach_follows (s := s.stopLead.updLead _) hh ht _)).trans (retire_follows _ _ _)

theorem armHead_follows {s : State} {m : Move} (hm : m ∈ s.mc.queue) : s.Follows (s.armHead m) := by
  have hs := s.startMove_follows m
  unfold armHead startSolo
  split
  · exact s.retire_follows _ _
  · split
    · exact s.announce_follows _ m
    · split
      · exact hs.trans (completeSeek_follows (h := { tag := m.tag, unreached := m.markers }) rfl (List.mem_map_of_mem hm))
      · exact hs

theorem settle_follows (n : Nat) (s : State) : s.Follows (s.settle n) := by
  induction n generalizing s with
  | zero => exact s.giveLink_follows
  | succ n ih =>
    simp only [settle]
    split
    · rename_i m rest _ hq
      split
      · exact (s.giveLink_follows.trans (armHead_follows (by simp [hq]))).trans (ih _)
      · exact s.giveLink_follows
    · exact s.giveLink_follows

/-! ## The end of an event -/

theorem fillUrgent_follows (s : State) : s.Follows s.fillUrgent := by
  refine ⟨by simp, by simp, ?_, by simp, by simp, by simp⟩
  rcases s.fillUrgent_cases with ⟨h, -⟩ | ⟨n, -, -, h⟩
  · rw [h]
    exact .refl _
  · rw [h]
    exact s.fq.gains_push nofun

theorem offer_follows (s : State) : s.Follows s.offer := by
  refine ⟨by simp, by simp, .of_eq ?_, by simp, by simp, by simp⟩
  rcases s.offer_cases with ⟨h, -⟩ | ⟨k, -, -, -, -, h⟩
  · rw [h]
  · rw [h]
    exact FrameQueue.lasting_beginOldest ..

theorem finish_follows (s : State) : s.Follows s.finish :=
  ((s.settle_follows _).trans (fillUrgent_follows _)).trans (offer_follows _)

/-! ## A node at rest -/

/-- A node that is IDLE or HELD is not PENDING, so the end of an event arms no head and leaves the queue, the markers, the lead
and the outputs (R12, R101, R155). -/
theorem finish_of_resting {s : State} (h : s.mc.state = .idle ∨ s.mc.state = .held) :
    s.finish.mc.queue = s.mc.queue ∧ s.finish.gate = s.gate ∧ s.finish.lead = s.lead ∧ s.finish.out = s.out := by
  have hg : s.giveLink = s ∨ s.giveLink = (s.hold .link).updMc fun m => { m with linkDue := false } := by
    unfold giveLink takeLink linkCause
    split
    · rcases h with h | h
      · exact .inr (by rw [h])
      · refine .inr ?_
        rw [h]
        simp [hold, addCause, updMc, h]
    · exact .inl rfl
  have hs (n : Nat) : s.settle n = s.giveLink := by
    have hne : s.giveLink.mc.state ≠ .pending := by
      rcases hg with hg | hg
      · rcases h with h | h <;> simp [hg, h]
      · simp [hg, hold]
    cases n with
    | zero => rfl
    | succ n =>
      simp only [settle]
      split
      · exact absurd ‹_› hne
      · rfl
  rw [finish, hs]
  rcases hg with hg | hg <;> simp [hg]

/-- A retirement leaves an empty queue, and a node with causes, at rest (R20). -/
theorem stateAfter_resting {cs : CauseSet} {rest : List Move} (h : rest = [] ∨ cs ≠ 0) (b : Bool) :
    stateAfter cs b rest = .idle ∨ stateAfter cs b rest = .held := by
  unfold stateAfter
  split
  · rename_i h0
    rcases h with rfl | h
    · exact .inl rfl
    · exact absurd h0.1 h
  · exact .inr rfl

end State

end Sys2Proof.Machine
end

section
/-! The end of a move: by its lead step, and of a SEEK on HOME (R17, R20, R47, R70, R74, R79, R80). -/

-- One proof after another: elaborated side by side they need more threads than the check allows.
set_option deprecated.oldSectionVars true

namespace Sys2Proof.Machine

/-! ## The lead step that ends a move -/

/-- A move in hand is retired once its lead is stopped, and the event is over: its REPORT stands in the Frame Queue, a cause
holds the node, an empty queue leaves it at rest, and what no retirement changes is as it was (R17, R20, R73). -/
theorem State.stop_retire_finish {u : State} {m : Move} {rest : List Move} (hq : u.mc.queue = m :: rest)
    (hm : u.mc.state.moving = true) (hf : 0 < u.fq.free) (o : RetireOutcome) (c : Option Cause) :
    let t := (u.stopLead.retire o c).finish
    t.holdsFrame (.report m.origin
      { tag := m.tag, group := m.group, outcome := o, cause := c, progress := u.lead.p, pulses := u.lead.pulses
        position := u.lead.position }) ∧
    t.mc.state ≠ .stopping ∧
    (rest = [] → t.mc.queue = [] ∧ t.lead.position = u.lead.position ∧ t.lead.phase = .stopped) ∧
    (∀ k, c = some k → t.mc.state = .held ∧ holdsCause t.mc.causes k = true) ∧
    t.store = u.store ∧ t.peer = u.peer ∧ t.inp = u.inp ∧ t.lead.soloScale = u.lead.soloScale ∧ t.out.dren = u.out.dren := by
  intro t
  have hv := (u.stopLead.retire o c).finish_follows
  have hst := (State.retire_fields (s := u.stopLead) hq o c).1
  have hrecord : u.stopLead.recordOf m o c =
      { tag := m.tag, group := m.group, outcome := o, cause := c, progress := u.lead.p, pulses := u.lead.pulses
        position := u.lead.position } := by
    simp [State.recordOf, State.stopLead, hm]
  have hstop := NodeState.ne_stopping_of_not_busy (State.retire_not_busy (s := u.stopLead) hq o c)
  refine ⟨?_, hv.stopping hstop, fun hr => ?_, fun k hk => ?_, by simp [t], by simp [t], by simp [t],
    hv.solo.trans (by simp [State.stopLead]), hv.dren.trans (by simp)⟩
  · rw [← hrecord]
    exact hv.frames.holds rfl (State.retire_holds_report (s := u.stopLead) hq hf o c)
  · obtain ⟨hqt, -, hlt, -⟩ := State.finish_of_resting (hst ▸ State.stateAfter_resting (.inl hr) _)
    refine ⟨hqt.trans (by simp [hq, hr]), ?_, ?_⟩ <;> rw [hlt] <;> simp [State.stopLead]
  · subst hk
    obtain ⟨hheld, hcause, -⟩ := State.retire_finish (s := u.stopLead) hq o k
    exact ⟨hheld, hcause⟩

/-- A lead step at the end of the lead, or of a halt descent short of it, retires the move (points 4 and 5 of R70, R74, R80). -/
theorem State.afterStep_of_ends {s : State} {m : Move} (h : s.lead.p = m.lead ∨ (s.lead.phase = .descent ∧ s.lead.c = 0)) :
    s.afterStep m =
      if s.lead.p = m.lead then
        s.stopLead.retire (if m.kind = .seek then .failed else .complete) (if m.kind = .seek then some .seekOverrun else none)
      else s.stopLead.retire .halted s.mc.descentCause := by
  unfold State.afterStep State.leadEnds
  split
  · cases m.kind <;> rfl
  · rw [if_pos (h.resolve_left ‹_›)]

/-- Settles O13: the step leaves the move in hand with its REPLY room, and its retirement ends the event. -/
theorem leadStepEndsTheMove : Obligations.LeadStepEndsTheMove := by
  intro s m rest st hok hm hq hs hdc hend l outcome cause
  obtain ⟨m', rest', ks, hq', hfits, hheld⟩ := hok.mid.in_hand hm
  obtain ⟨rfl, rfl⟩ := List.cons.inj (hq'.symm.trans hq)
  have hlt : s.lead.p < m'.lead := hfits.1
  let u := (s.madeStep m' st).reach fun k => decide (k.position = s.lead.p + 1)
  have hlead : u.lead = l := by simp [u, State.madeStep_eq, l]
  have hp : l.p = s.lead.p + 1 := rfl
  have hmc : u.mc.state = s.mc.state ∧ u.mc.queue = s.mc.queue ∧ u.mc.descentCause = s.mc.descentCause := by
    simp [u, State.madeStep_eq]
  have hfree : 0 < u.fq.free := by
    rw [(State.reach_keepsRoom _ _).free, State.madeStep_eq]
    exact (hok.room (.inr hm)).1
  have hafter : u.afterStep m' = u.stopLead.retire outcome cause := by
    rw [State.afterStep_of_ends, hlead, hp, hmc.2.2]
    · by_cases hL : s.lead.p + 1 = m'.lead
      · simp [outcome, cause, hL]
      · have : s.lead.p + 1 < m'.lead := by omega
        simp [outcome, cause, hL, this]
    · rw [hlead, hp]
      exact hend
  have hexec : exec .leadStep s = .next (u.stopLead.retire outcome cause).finish := by
    rw [← hafter]
    exact congrArg Host.Outcome.next (State.leadStep_of_step hq hs)
  have hdren : u.out.dren = s.out.dren := by
    refine (State.reach_follows (s := s.madeStep m' st) (h := { tag := m'.tag, unreached := ks }) ?_ ?_ _).dren.trans ?_ <;>
      simp [State.madeStep_eq, hheld, hq]
  obtain ⟨hreport, hstate, hlast, hcause, hstore, hpeer, hinp, hsolo, hd⟩ :=
    State.stop_retire_finish (u := u) (hmc.2.1.trans hq) (hmc.1 ▸ hm) hfree outcome cause
  rw [hlead] at hreport hlast hsolo
  refine ⟨_, hexec, hreport, hstate, hlast, hcause, hstore.trans ?_, hpeer.trans ?_, hinp.trans ?_, hsolo, hd.trans hdren⟩ <;>
    simp [u, State.madeStep_eq]

end Sys2Proof.Machine
end

section
/-! HOME registered asserted, and the SEEK that it completes (R47, R79, R132). -/

-- One proof after another: elaborated side by side they need more threads than the check allows.
set_option deprecated.oldSectionVars true

namespace Sys2Proof.Machine

/-! ## The MARKs of one tag -/

/-- A MARK of a move of tag `t`. -/
def OutFrame.isMarkOf (t : Tag) : OutFrame → Bool
  | .mark t' _ _ => decide (t' = t)
  | _ => false

theorem OutFrame.isMarkOf_iff {t : Tag} {f : OutFrame} : f.isMarkOf t = true ↔ ∃ n o, f = .mark t n o := by
  cases f <;> simp [OutFrame.isMarkOf]

/-- The MARKs of one tag are among the lasting frames. -/
theorem FrameQueue.filter_isMarkOf (q : FrameQueue) (t : Tag) :
    (q.entries.map (·.frame)).filter (OutFrame.isMarkOf t) = q.lasting.filter (OutFrame.isMarkOf t) := by
  rw [FrameQueue.lasting, List.filter_filter]
  refine List.filter_congr fun f _ => ?_
  cases f <;> simp [OutFrame.isMarkOf, OutFrame.lasts]

/-- Where the MARKs gained are of other tags, those of this one are as they were. -/
theorem FrameQueue.Gains.filter_isMarkOf {ts : List Tag} {q r : FrameQueue} (h : q.Gains ts r) {t : Tag} (ht : t ∉ ts) :
    r.lasting.filter (OutFrame.isMarkOf t) = q.lasting.filter (OutFrame.isMarkOf t) := by
  obtain ⟨fs, hr, hm⟩ := h
  have hno : fs.filter (OutFrame.isMarkOf t) = [] := by
    refine List.filter_eq_nil_iff.mpr fun f hf hmark => ?_
    obtain ⟨n, o, rfl⟩ := OutFrame.isMarkOf_iff.mp hmark
    exact ht (hm t n o hf)
  rw [hr, List.filter_append, hno, List.append_nil]

theorem State.reachAll_joined (t : Tag) (ms : List Marker) (s : State) :
    s.fq.Joined (fun f => ∃ k, f = .mark t k .reached) (s.reachAll t ms).fq := by
  induction ms generalizing s with
  | nil => exact .refl _
  | cons m ms ih => exact (State.queueSync_joined (f := .mark t m.number .reached) ⟨_, rfl⟩ s).trans (ih _)

/-! ## The completion -/

/-- The lead of a SEEK that completed: stopped at the home value (R73, R79). -/
def Lead.homed (l : Lead) (home : Int) : Lead := { l with phase := .stopped, step := none, cap := none, position := home }

/-- The markers are reached, the lead stops at the home value, and the move is retired (R47, R79). -/
theorem State.completeSeek_eq (s : State) :
    s.completeSeek = ((s.reach fun _ => true).updLead fun l => l.homed s.homeValue).retire .complete none := by
  rw [← State.reach_updLead]
  rfl

/-- The Frame Queue after a SEEK completed: the MARKs of its unreached markers, and the REPORT that gives the home value; no
marker is left to be voided (R47, R79). -/
theorem State.completeSeek_fq {s : State} {m : Move} {rest : List Move} {h : HeldMarkers} (hq : s.mc.queue = m :: rest)
    (hm : s.mc.state.moving = true) (hf : 0 < s.fq.free) (hh : s.gate.held = some h) :
    s.completeSeek.fq = (s.reach fun _ => true).fq.push (.report m.origin
      { tag := m.tag, group := m.group, outcome := .complete, cause := none, progress := s.lead.p
        pulses := s.lead.pulses, position := s.homeValue }) := by
  have hleft : ((s.reach fun _ => true).updLead fun l => l.homed s.homeValue).unreachedOf m = [] := by
    simp [State.unreachedOf, hm, State.reach_of_held hh]
  have hfree : 0 < (s.reach fun _ => true).fq.free := (s.reach_keepsRoom _).free ▸ hf
  rw [State.completeSeek_eq, State.retire_fq (m := m) (rest := rest) (by simp [hq]), hleft]
  simp [ascending, State.voidAll, State.withdraw, State.report, hfree, State.recordOf, Lead.homed, hm]

/-- What a SEEK that completed leaves of the node state, the markers and the lead (R20, R46, R79). -/
theorem State.completeSeek_fields {s : State} {m : Move} {rest : List Move} (hq : s.mc.queue = m :: rest) :
    s.completeSeek.mc.state = stateAfter s.mc.causes s.mc.holdPending rest ∧ s.completeSeek.gate.held = none ∧
    s.completeSeek.lead = s.lead.homed s.homeValue := by
  rw [State.completeSeek_eq]
  unfold State.retire
  simp [hq, causesAfter]

/-- A SEEK that completes lights the lines of its unreached markers (R47, R48). -/
theorem State.completeSeek_out {s : State} {h : HeldMarkers} (hh : s.gate.held = some h) :
    s.completeSeek.out =
      { s.out with mko0 := s.out.mko0 || h.unreached.any fun k => decide (k.line = some .mko0)
                   mko1 := s.out.mko1 || h.unreached.any fun k => decide (k.line = some .mko1) } := by
  rw [State.completeSeek_eq, State.reach_of_held hh]
  simp [State.reachAll_out, any_ascending]

/-- The MARKs of a SEEK that completes are MARK REACHED (R47). -/
theorem State.completeSeek_holds_void {s : State} {m : Move} {rest : List Move} {h : HeldMarkers}
    (hq : s.mc.queue = m :: rest) (hm : s.mc.state.moving = true) (hf : 0 < s.fq.free) (hh : s.gate.held = some h)
    {n : Nat} (hv : s.completeSeek.holdsFrame (.mark m.tag n .void)) : s.holdsFrame (.mark m.tag n .void) := by
  obtain ⟨e, he, hfe⟩ := hv
  rw [State.completeSeek_fq hq hm hf hh, State.reach_of_held hh] at he
  rcases List.mem_append.mp he with he | he
  · rcases (State.reachAll_joined h.tag _ s).mem_or he with he | ⟨k, hk⟩
    · exact ⟨e, he, hfe⟩
    · exact absurd (hfe.symm.trans hk) (by simp)
  · cases List.mem_singleton.mp he
    cases hfe

/-- The MARKs of a SEEK that completes with room for them (R47, R151). -/
theorem State.completeSeek_marks {s : State} {m : Move} {rest : List Move} {ks : List Marker} (hq : s.mc.queue = m :: rest)
    (hm : s.mc.state.moving = true) (hf : 0 < s.fq.free) (hh : s.gate.held = some { tag := m.tag, unreached := ks })
    (hroom : s.fq.count .sync + ks.length ≤ 6) :
    s.completeSeek.fq.lasting.filter (OutFrame.isMarkOf m.tag) =
      s.fq.lasting.filter (OutFrame.isMarkOf m.tag) ++ (ascending ks).map fun k => .mark m.tag k.number .reached := by
  have hpick : ks.filter (fun _ => true) = ks := by simp
  have hfq : (s.reach fun _ => true).fq = s.fq.pushAll ((ascending ks).map fun k => .mark m.tag k.number .reached) := by
    rw [State.reach_of_room hh _ (by rwa [hpick]), hpick]
  have hmarks : ((s.fq.pushAll ((ascending ks).map fun k => .mark m.tag k.number .reached)).entries.map (·.frame)) =
      s.fq.entries.map (·.frame) ++ (ascending ks).map fun k => .mark m.tag k.number .reached := by
    simp [FrameQueue.pushAll, Function.comp_def]
  rw [State.completeSeek_fq hq hm hf hh, hfq, FrameQueue.lasting_push, List.filter_append, ← FrameQueue.filter_isMarkOf,
    ← FrameQueue.filter_isMarkOf, hmarks, List.filter_append]
  simp [OutFrame.isMarkOf, OutFrame.lasts]

/-! ## The delivery -/

/-- HOME acts on nothing but a SEEK in motion (R79). -/
theorem State.homeDelivered_of_no_seek {s : State}
    (h : s.mc.state.moving = false ∨ ∀ m ∈ s.mc.queue.head?, m.kind ≠ .seek) : s.homeDelivered = s := by
  unfold State.homeDelivered
  split
  · rename_i m hm
    refine if_neg fun ⟨hseek, hmoving⟩ => ?_
    rcases h with h | h
    · exact Bool.false_ne_true (h.symm.trans hmoving)
    · exact h m hm hseek
  · rfl

theorem State.homeDelivered_of_seek {s : State} {m : Move} {rest : List Move} (hq : s.mc.queue = m :: rest)
    (hseek : m.kind = .seek) (hm : s.mc.state.moving = true) : s.homeDelivered = s.completeSeek.finish := by
  have hhead : s.head = some m := congrArg List.head? hq
  simp only [State.homeDelivered, hhead]
  exact if_pos ⟨hseek, hm⟩

/-- No move behind the head has its tag (R2). -/
theorem State.queueOk.head_tag_notMem {s : State} {m : Move} {rest : List Move} (h : s.queueOk)
    (hq : s.mc.queue = m :: rest) : m.tag ∉ rest.map (·.tag) := by
  have hnodup := h.2.1
  rw [hq, List.map_cons, List.nodup_cons] at hnodup
  exact hnodup.1

/-- Settles O52: an event on HOME completes a SEEK in motion, and what follows the completion queues no MARK of its tag. -/
theorem homeCompletesASeek : Obligations.HomeCompletesASeek := by
  intro s hok hreset on u
  have hexec : exec .homeAsserted s = .next (if s.asserted .home = true then u else u.homeDelivered) := by
    refine congrArg Host.Outcome.next ?_
    rw [State.slotPassed_false, State.assertion, hreset]
    rfl
  refine ⟨fun hno => ?_, ?_⟩
  · rw [hexec]
    split
    · rfl
    · exact congrArg Host.Outcome.next (State.homeDelivered_of_no_seek (s := u) (hno.resolve_left ‹_›))
  intro m rest ks hna hm hq hseek hh order marksOf
  have hf : 0 < s.fq.free := (hok.room (.inr hm)).1
  have hv := u.completeSeek.finish_follows
  have hqv : u.completeSeek.mc.queue = rest := u.completeSeek_queue.trans (congrArg List.tail hq)
  obtain ⟨hst, hheld, hlead⟩ := State.completeSeek_fields (s := u) hq
  have hnew : m.tag ∉ u.completeSeek.mc.queue.map (·.tag) := hqv ▸ State.queueOk.head_tag_notMem hok.queue hq
  have hmarksOf (q : FrameQueue) : marksOf q = q.lasting.filter (OutFrame.isMarkOf m.tag) := by
    rw [← FrameQueue.filter_isMarkOf]
    exact List.filter_congr fun f _ => by cases f <;> rfl
  refine ⟨u.completeSeek.finish, ?_, ?_, fun hroom => ?_, fun n hvoid => ?_, fun hrest => ?_, ?_, ?_, fun hr => ?_,
    by simp, by simp [u], by simp [u], hv.groups.trans (by simp [u])⟩
  · rw [hexec, hna, State.homeDelivered_of_seek (s := u) hq hseek hm]
    rfl
  · refine hv.frames.holds rfl ?_
    rw [State.completeSeek_fq (s := u) hq hm hf hh]
    exact ⟨_, List.mem_append_right _ (List.mem_singleton_self _), rfl⟩
  · rw [hmarksOf, hmarksOf, hv.frames.filter_isMarkOf hnew]
    exact State.completeSeek_marks (s := u) hq hm hf hh hroom
  · exact State.completeSeek_holds_void (s := u) hq hm hf hh (hv.frames.holds_mark_before hnew hvoid)
  · obtain ⟨-, -, -, hout⟩ := State.finish_of_resting (hst ▸ State.stateAfter_resting hrest _)
    exact hout.trans (State.completeSeek_out (s := u) hh)
  · exact hv.stopping (NodeState.ne_stopping_of_not_busy (hst ▸ busy_stateAfter _ _ _))
  · exact fun x hx => hqv ▸ hv.queue hx
  · obtain ⟨hqt, hgt, hlt, -⟩ := State.finish_of_resting (hst ▸ State.stateAfter_resting (.inl hr) _)
    exact ⟨hqt.trans (hqv.trans hr), (congrArg _ hgt).trans hheld, hlt.trans hlead⟩

end Sys2Proof.Machine
end

section
/-! HALT notices: raised, merged and returned, and what lasts of them (R93, R94, R96, R154). -/

-- One proof after another: elaborated side by side they need more threads than the check allows.
set_option deprecated.oldSectionVars true

namespace Sys2Proof.Machine

theorem mergeContent_now {e n : NoticeContent} (hn : n.kind = .now) : (mergeContent e n).kind = .now := by
  unfold mergeContent
  cases hk : e.kind <;> simp [hn, hk]

theorem State.noticeFor_congr {s t : State} (h : t.mc.notices = s.mc.notices) (g : GroupNo) :
    t.noticeFor g = s.noticeFor g := by
  rw [State.noticeFor, State.noticeFor, h]

section

variable {ns before after : List Notice} {e : Notice} {g : GroupNo}

/-- The one notice for a group, where the list holds it (R93). -/
theorem State.noticeFor_of_append {s : State} (hs : s.mc.notices = before ++ e :: after) (he : e.group = g)
    (ho : ∀ x ∈ before ++ after, x.group ≠ g) : s.noticeFor g = some e :=
  List.find?_eq_some_iff_append.mpr ⟨by simpa using he, before, after, hs, fun x hx => by simpa using ho x (by simp [hx])⟩

theorem changeNotice_eq_self {f : Notice → Notice} (h : ∀ x ∈ ns, x.group ≠ g) : changeNotice g f ns = ns :=
  (List.map_congr_left fun x hx => if_neg (h x hx)).trans (List.map_id _)

theorem withoutNotice_eq_self (h : ∀ x ∈ ns, x.group ≠ g) : withoutNotice g ns = ns :=
  List.filter_eq_self.mpr fun x hx => by simpa using h x hx

theorem changeNotice_append (he : e.group = g) (ho : ∀ x ∈ before ++ after, x.group ≠ g) (f : Notice → Notice) :
    changeNotice g f (before ++ e :: after) = before ++ f e :: after := by
  rw [List.forall_mem_append] at ho
  simp only [changeNotice, List.map_append, List.map_cons, he, if_true]
  exact congrArg₂ (· ++ f e :: ·) (changeNotice_eq_self ho.1) (changeNotice_eq_self ho.2)

theorem withoutNotice_append (he : e.group = g) (ho : ∀ x ∈ before ++ after, x.group ≠ g) :
    withoutNotice g (before ++ e :: after) = before ++ after := by
  rw [List.forall_mem_append] at ho
  simp only [withoutNotice, List.filter_append, List.filter_cons, he, ne_eq, not_true, decide_false, Bool.false_eq_true,
    if_false]
  exact congrArg₂ (· ++ ·) (withoutNotice_eq_self ho.1) (withoutNotice_eq_self ho.2)

end

/-- Settles O23: by the notice that the list holds for the group, its transmission and the upgrade held for it. -/
theorem noticesMerge : Obligations.NoticesMerge := by
  intro s g n deferred listing say saying
  refine ⟨fun hnone => ?_, ?_⟩
  · rw [State.raiseNotice, hnone]
    rfl
  intro before after e hs he ho merged
  have hfor : s.noticeFor g = some e := State.noticeFor_of_append hs he ho
  have hchange := changeNotice_append he ho
  refine ⟨fun hsend => ?_, fun hsend hup => ?_, fun hup => ⟨?_, ?_⟩⟩
  · simp only [State.raiseNotice, hfor, hsend, Bool.false_eq_true, if_false, hs, State.updMc, hchange]
    rfl
  · simp only [State.raiseNotice, hfor, hsend, if_true, hs, State.updMc, hchange, hup]
    rfl
  · simp only [State.noticeTaken, hfor, hs, State.updMc, withoutNotice_append he ho, upgradeAfterTake, hup, he]
    rfl
  · simp only [State.noticeReturned, hfor, hs, State.updMc, hchange, hup]
    rfl

/-! ## Notices that last -/

/-- What a notice says: all of it but its status (R93, R96). -/
def Notice.said (n : Notice) : GroupNo × NoticeContent × Option NoticeContent := (n.group, n.content, n.upgrade)

/-- A notice that is offered says what it said (R94). -/
theorem State.fillUrgent_said (s : State) : s.fillUrgent.mc.notices.map Notice.said = s.mc.notices.map Notice.said := by
  rcases s.fillUrgent_cases with ⟨h, -⟩ | ⟨n, -, -, h⟩
  · rw [h]
  · rw [h]
    refine List.map_map.trans (List.map_congr_left fun x _ => ?_)
    simp only [Function.comp, apply_ite Notice.said]
    exact ite_self _

/-- The end of an event on a HELD node changes the status of a notice at most (R94, R101). -/
theorem State.finish_said_of_held {s : State} (h : s.mc.state = .held) :
    s.finish.mc.notices.map Notice.said = s.mc.notices.map Notice.said := by
  have hg : s.giveLink.mc.notices = s.mc.notices := by
    rcases State.giveLink_of_held h with he | he <;> simp [he]
  rw [State.finish_of_held h, (State.offer_frame _).2.1, State.fillUrgent_said, hg]

theorem State.finish_notice_of_held {s : State} (h : s.mc.state = .held) {n : Notice} (hn : n ∈ s.mc.notices) :
    ∃ x ∈ s.finish.mc.notices, x.said = n.said :=
  List.mem_map.mp (State.finish_said_of_held h ▸ List.mem_map_of_mem hn)

/-- A notice raised while none of its group is in transmission stands in the list, or is merged there (R93, R96). -/
theorem State.raiseNotice_listed {s : State} {g : GroupNo} (h : s.fq.haltSending g = false) (n : NoticeContent) (d : Bool) :
    ∃ x ∈ (s.raiseNotice g n d).mc.notices, x.group = g ∧ (s.noticeFor g = none → x.content = n) ∧
      ∀ e, s.noticeFor g = some e → x.content = mergeContent e.content n := by
  unfold State.raiseNotice
  cases hf : s.noticeFor g with
  | none => exact ⟨_, List.mem_append_right _ (List.mem_singleton_self _), rfl, fun _ => rfl, nofun⟩
  | some e =>
    obtain ⟨he, hg⟩ := State.noticeFor_some hf
    simp only [h, Bool.false_eq_true, if_false]
    refine ⟨_, List.mem_map_of_mem he, ?_⟩
    simp [hg]

theorem heldUpgrade_now {n : NoticeContent} (hn : n.kind = .now) (u : Option NoticeContent) :
    ∃ w, heldUpgrade u n = some w ∧ w.kind = .now := by
  cases u with
  | none => exact ⟨n, rfl, hn⟩
  | some u => exact ⟨_, rfl, mergeContent_now hn⟩

/-- A group that is told NOW has a notice that says so, or one in transmission with an upgrade that does (R93, R96). -/
theorem State.raiseNotice_now {s : State} {g : GroupNo} {n : NoticeContent} (hn : n.kind = .now) (d : Bool) :
    ∃ x ∈ (s.raiseNotice g n d).mc.notices, x.group = g ∧
      (x.content.kind = .now ∨ ∃ w, x.upgrade = some w ∧ w.kind = .now) ∧ (s.noticeFor g = none → x.content = n) := by
  cases hsend : s.fq.haltSending g with
  | false =>
    obtain ⟨x, hx, hg, hnone, hsome⟩ := State.raiseNotice_listed hsend n d
    refine ⟨x, hx, hg, .inl ?_, hnone⟩
    cases hf : s.noticeFor g with
    | none => rw [hnone hf, hn]
    | some e => rw [hsome e hf, mergeContent_now hn]
  | true =>
    unfold State.raiseNotice
    cases hf : s.noticeFor g with
    | none => exact ⟨_, List.mem_append_right _ (List.mem_singleton_self _), rfl, .inl hn, fun _ => rfl⟩
    | some e =>
      obtain ⟨he, hg⟩ := State.noticeFor_some hf
      simp only [hsend, if_true]
      refine ⟨_, List.mem_map_of_mem he, ?_⟩
      simp only [hg, if_true]
      exact ⟨trivial, .inr (heldUpgrade_now hn e.upgrade), nofun⟩

end Sys2Proof.Machine
end

section
/-! A move that is stopped at once or brought down, and the LINK cause by the node state (R72 to R74, R101). -/

-- One proof after another: elaborated side by side they need more threads than the check allows.
set_option deprecated.oldSectionVars true

namespace Sys2Proof.Machine

theorem NodeState.announced_iff {st : NodeState} : st.announced = true ↔ st = .announcing ∨ st = .armed := by
  cases st <;> simp [NodeState.announced]

theorem NodeState.moving_iff {st : NodeState} : st.moving = true ↔ st = .running ∨ st = .stopping := by
  rw [NodeState.moving_eq, decide_eq_true_iff]

/-- A move that has not reached the end of its lead is stopped at once and retired HALTED (R73, R74). -/
theorem State.haltMove_of_short {s : State} {m : Move} {rest : List Move} (hq : s.mc.queue = m :: rest)
    (hp : s.lead.p ≠ m.lead) (c : Cause) : s.haltMove c = s.stopLead.retire .halted (some c) := by
  simp only [State.haltMove, State.head, hq, List.head?_cons, if_neg hp]

theorem State.stopMove_of_short {s : State} {m : Move} {rest : List Move} (hq : s.mc.queue = m :: rest)
    (hp : s.lead.p ≠ m.lead) (c : Cause) (d : Bool) :
    s.stopMove c d = (s.stopLead.retire .halted (some c)).notify m .now c d := by
  simp only [State.stopMove, State.haltMove_of_short hq hp, State.head, hq, List.head?_cons]

/-- A move in hand is the head, short of the end of its lead (R68). -/
theorem State.mid.lead_short {s : State} {m : Move} {rest : List Move} (h : s.mid) (hm : s.mc.state.moving = true)
    (hq : s.mc.queue = m :: rest) : s.lead.p ≠ m.lead := by
  obtain ⟨m', _, _, hq', hfits, -⟩ := h.in_hand hm
  obtain ⟨rfl, rfl⟩ := List.cons.inj (hq'.symm.trans hq)
  exact hfits.1.ne

/-- A move brought down with the climb counter at 0 is stopped at once (R72). -/
theorem State.rampMove_of_climb_zero {s : State} {m : Move} {rest : List Move} (hq : s.mc.queue = m :: rest)
    (hc : s.lead.c = 0) (hp : s.lead.p ≠ m.lead) (c : Cause) :
    s.rampMove c = ((s.addCause c).stopLead.retire .halted (some c)).notify m .ramp c false := by
  have hdescent : (s.addCause c).haltDescent c = (s.addCause c).haltMove c := if_pos hc
  simp only [State.rampMove, State.head, hq, List.head?_cons, hdescent]
  rw [State.haltMove_of_short (s := s.addCause c) hq hp]

/-- A move brought down with the climb counter above 0 begins a halt descent (R72, R104). -/
theorem State.rampMove_of_climb_pos {s : State} {m : Move} {rest : List Move} (hq : s.mc.queue = m :: rest)
    (hc : 0 < s.lead.c) (c : Cause) :
    s.rampMove c =
      ({ s with
        lead := { s.lead with phase := .descent }
        mc := { s.mc with causes := withCause s.mc.causes c, state := .stopping, descentCause := some c } } : State).notify
        m .ramp c false := by
  have hhead : s.head = some m := congrArg List.head? hq
  have hdescent : (s.addCause c).haltDescent c = _ := if_neg hc.ne'
  rw [State.rampMove, hhead]
  exact congrArg (State.notify m .ramp c false) hdescent

/-- Settles O22: the LINK cause acts by the node state, and a head that it ends is announced or in hand. -/
theorem linkCauseByState : Obligations.LinkCauseByState := by
  intro s cleared added
  refine ⟨fun hs => ?_, fun hs => ?_, fun hs => ?_, fun hs hk => ?_, ?_⟩
  · rw [State.takeLink, State.linkCause, hs]
    rfl
  · rcases hs with hs | hs <;> rw [State.takeLink, State.linkCause, hs] <;> rfl
  · rw [State.takeLink, State.linkCause, hs]
    rfl
  · rcases NodeState.announced_iff.mp hs with hs | hs
    · rw [State.takeLink, State.linkCause, hs, hk]
      rfl
    · rw [State.takeLink, State.linkCause, hs]
      rfl
  · intro m rest hm hq hp ended
    have hlink : s.linkCause = s.stopMove .link (decide (s.link.state ≠ .active)) := by
      rw [State.linkCause]
      rcases NodeState.moving_iff.mp hm with hm | hm <;> rw [hm]
    rw [State.takeLink, hlink, State.stopMove_of_short hq hp]
    rfl

end Sys2Proof.Machine
end

section
/-! RESUME, and a request whose action is followed by the end of an event (R83, R105, R157). -/

-- One proof after another: elaborated side by side they need more threads than the check allows.
set_option deprecated.oldSectionVars true

namespace Sys2Proof.Machine

/-- A refused request whose action would be followed by the end of an event (R157). -/
theorem State.request_finish_refused {s : State} {src : Addr} (h : s.takesRequest src) (hs : s.settled) (num : Nat)
    (k : RequestKind) {act : State → State × Reply} {r : NakReason} (ha : act (s.opened src) = (s.opened src).refuse r) :
    s.request src num k act State.finish = s.refused src num k r := by
  rw [State.request_of_takes h, ha]
  exact State.finish_of_settled_of_not_idle (State.answered_settled src hs rfl) (by simp [State.refuse])

/-- An accepted request whose reply is an ACK without detail, followed by the end of an event (R157). -/
theorem State.request_finish_acked {s v : State} {src : Addr} (h : s.takesRequest src) (num : Nat) (k : RequestKind)
    {act : State → State × Reply} (ha : act (s.opened src) = (v, .ack none)) :
    s.request src num k act State.finish = (v.fill (.ack src num k.code none)).finish := by
  rw [State.request_of_takes h, ha]
  rfl

theorem State.causePersists_iff (s : State) :
    s.causePersists = true ↔ s.asserted .dalm = true ∨ s.asserted .stopin = true ∨
      (holdsCause s.mc.causes .link = true ∧ s.link.state ≠ .active) := by
  simp [State.causePersists, or_assoc]

theorem stateAfter_zero (q : List Move) : stateAfter 0 false q = if q = [] then .idle else .pending := by
  cases q <;> rfl

/-- Settles O33: a refusal leaves the hold, and a RESUME clears it and is followed by the end of the event. -/
theorem resumeClearsTheHold : Obligations.ResumeClearsTheHold := by
  intro src num s h hset persists resumed
  have hpersists : (s.opened src).causePersists = true ↔ persists := (s.opened src).causePersists_iff
  have hresumed : (s.opened src).resumed.fill (.ack src num RequestKind.resume.code none) = resumed := by
    simp only [resumed, ← stateAfter_zero]
    rfl
  refine ⟨fun hs => ?_, fun hs hp => ?_, fun hs hp => ?_⟩
  · exact congrArg _ (State.request_finish_refused h hset num _ (if_pos hs))
  · have hact : (s.opened src).resumeAct = (s.opened src).refuse .causePersists :=
      (if_neg (not_not.mpr hs)).trans (if_pos (hpersists.mpr hp))
    exact congrArg _ (State.request_finish_refused h hset num _ hact)
  · have hact : (s.opened src).resumeAct = ((s.opened src).resumed, .ack none) :=
      (if_neg (not_not.mpr hs)).trans (if_neg (mt hpersists.mp hp))
    have hexec : exec (.resume src num) s = .next resumed.finish :=
      congrArg Host.Outcome.next (hresumed ▸ State.request_finish_acked h num .resume hact)
    refine ⟨hexec, fun hno => ?_⟩
    have hack : (s.acked src num .resume none).settled := State.answered_settled src hset rfl
    rw [hexec, State.finish_of_settled_of_not_idle _ (by decide : (0 : Nat) ≠ 12)]
    refine ⟨hset.1, fun _ m hm => ?_, hack.2.2⟩
    obtain ⟨rest, hq⟩ := List.head?_eq_some_iff.mp hm
    exact hno m rest hq

end Sys2Proof.Machine
end

section
/-! SUPPORT. The node whose head has ended, in the midst of an event and at its end, and the WITHDRAWs that stand in its
Frame Queue (R17 to R22, R91, R94, R154). -/

-- One proof after another: elaborated side by side they need more threads than the check allows.
set_option deprecated.oldSectionVars true

namespace Sys2Proof.Machine

/-! ## WITHDRAWs -/

/-- Every WITHDRAW of the queue `r` is an entry of `q` (R154). -/
def FrameQueue.NoNewWithdraw (q r : FrameQueue) : Prop :=
  ∀ e ∈ r.entries, ∀ g t c, e.frame = .withdraw g t c → e ∈ q.entries

namespace FrameQueue

variable {q r v : FrameQueue}

theorem NoNewWithdraw.trans (h : q.NoNewWithdraw r) (h' : r.NoNewWithdraw v) : q.NoNewWithdraw v :=
  fun e he g t c hf => h e (h' e he g t c hf) g t c hf

theorem NoNewWithdraw.of_entries (h : r.entries = q.entries) : q.NoNewWithdraw r := fun _ he _ _ _ _ => h ▸ he

theorem noNewWithdraw_removeQueued (q : FrameQueue) (pick : OutFrame → Bool) : q.NoNewWithdraw (q.removeQueued pick) :=
  fun _ he _ _ _ _ => List.mem_of_mem_filter he

/-- The frames of a head that is not FAILED, and of the end of an event, are no WITHDRAWs (R21). -/
theorem Joined.noNewWithdraw (h : q.Joined (endFrame none) r) : q.NoNewWithdraw r := by
  intro e he g t c hf
  refine (h.mem_or he).resolve_right fun hend => ?_
  rw [hf] at hend
  cases hend.1

theorem noNewWithdraw_changeHalt (q : FrameQueue) (g : GroupNo) (n : NoticeContent) :
    q.NoNewWithdraw (q.changeHalt g n) := by
  intro e he h t c hf
  obtain ⟨x, hx, rfl⟩ := List.mem_map.mp he
  split at hf
  · cases hf
  · rwa [if_neg ‹_›]

theorem noNewWithdraw_fill (q : FrameQueue) {f : OutFrame} (h : f.cls = .reply) :
    q.NoNewWithdraw { q.push f with reserved := false } := by
  intro e he g t c hf
  refine (List.mem_append.mp he).resolve_right fun hnew => ?_
  rw [List.mem_singleton.mp hnew] at hf
  rw [show f = _ from hf] at h
  cases h

end FrameQueue

theorem State.raiseNotice_noNewWithdraw (g : GroupNo) (n : NoticeContent) (d : Bool) (s : State) :
    s.fq.NoNewWithdraw (s.raiseNotice g n d).fq := by
  unfold State.raiseNotice
  split
  · exact .of_entries rfl
  · split
    · exact .of_entries rfl
    · exact s.fq.noNewWithdraw_changeHalt _ _

theorem State.notify_noNewWithdraw (m : Move) (k : HaltKind) (c : Cause) (d : Bool) (s : State) :
    s.fq.NoNewWithdraw (s.notify m k c d).fq := by
  unfold State.notify
  split
  · exact State.raiseNotice_noNewWithdraw _ _ _ s
  · exact .of_entries rfl

/-- A HALTED head queues no WITHDRAW (R21). -/
theorem State.retire_halted_noNewWithdraw {s : State} {m : Move} {rest : List Move} (hq : s.mc.queue = m :: rest)
    (c : Option Cause) : s.fq.NoNewWithdraw (s.retire .halted c).fq := by
  rw [State.retire_fq hq]
  exact ((s.report_joined _ none).trans (State.voidAll_joined _ _ none _)).noNewWithdraw

theorem State.finish_noNewWithdraw_of_held {s : State} (h : s.mc.state = .held) (hi : s.link.idleCount ≠ 12) :
    s.fq.NoNewWithdraw s.finish.fq :=
  (State.finish_joined_of_held h hi none).noNewWithdraw

/-! ## A head that has ended -/

/-- `v` is the state `s` after its head `m` ended with outcome `o` for the cause `k`: the node is HELD for the cause with the
queue behind the head, the lead is at rest where it was, the REPORT stands in the Frame Queue, and the blocks that no end of
a head changes are as they were (R17 to R22). -/
structure State.HeadEnded (s v : State) (m : Move) (rest : List Move) (o : RetireOutcome) (k : Cause) : Prop where
  held     : v.mc.state = .held
  cause    : holdsCause v.mc.causes k = true
  queue    : v.mc.queue = rest
  position : v.lead.position = s.lead.position
  step     : v.lead.step = none
  report   : v.holdsFrame (.report m.origin (s.recordOf m o (some k)))
  blocks   : v.store = s.store ∧ v.peer = s.peer ∧ v.out = s.out ∧ v.inp = s.inp
  groups   : v.roll.groups = s.roll.groups

section

variable {s v : State} {m : Move} {rest : List Move} {o : RetireOutcome} {k : Cause}

/-- The head is retired with its lead at rest and a REPLY entry free. -/
theorem State.retire_headEnded (hq : s.mc.queue = m :: rest) (hf : 0 < s.fq.free) (hs : s.lead.step = none) :
    s.HeadEnded (s.retire o (some k)) m rest o k where
  held := s.retire_held hq o k
  cause := (State.retire_fields hq o _).2.1 ▸ holdsCause_withCause _ _
  queue := by simp [hq]
  position := by simp
  step := by simpa using hs
  report := State.retire_holds_report hq hf o _
  blocks := by simp
  groups := (State.retire_fields hq o _).2.2.2.2

/-- The end of the head is told from any state with the record of `s` and the blocks that no end of a head changes. -/
theorem State.HeadEnded.rebase {t : State} (h : s.HeadEnded v m rest o k)
    (hr : t.recordOf m o (some k) = s.recordOf m o (some k)) (hp : t.lead.position = s.lead.position)
    (hb : t.store = s.store ∧ t.peer = s.peer ∧ t.out = s.out ∧ t.inp = s.inp) (hg : t.roll.groups = s.roll.groups) :
    t.HeadEnded v m rest o k := by
  obtain ⟨hstore, hpeer, hout, hinp⟩ := hb
  refine ⟨h.held, h.cause, h.queue, h.position.trans hp.symm, h.step, hr ▸ h.report, ?_, h.groups.trans hg.symm⟩
  rw [hstore, hpeer, hout, hinp]
  exact h.blocks

/-- A move in hand is stopped at once (R73). -/
theorem State.stop_headEnded (hq : s.mc.queue = m :: rest) (hf : 0 < s.fq.free) :
    s.HeadEnded (s.stopLead.retire o (some k)) m rest o k :=
  (State.retire_headEnded (s := s.stopLead) hq hf rfl).rebase rfl rfl ⟨rfl, rfl, rfl, rfl⟩ rfl

/-- A move in hand is stopped at once, its cause having joined the set before (R72, R104). -/
theorem State.addCause_stop_headEnded (hq : s.mc.queue = m :: rest) (hf : 0 < s.fq.free) (c : Cause) :
    s.HeadEnded ((s.addCause c).stopLead.retire o (some k)) m rest o k :=
  (State.stop_headEnded (s := s.addCause c) hq hf).rebase rfl rfl ⟨rfl, rfl, rfl, rfl⟩ rfl

/-- An announced head is given up (R37, R41, R91). -/
theorem State.giveUp_headEnded (hq : s.mc.queue = m :: rest) (hf : 0 < s.fq.free) (hs : s.lead.step = none) :
    s.HeadEnded (s.giveUp o k []) m rest o k :=
  have hf' : 0 < s.removeReady.fq.free := hf.trans_le (s.fq.free_removeQueued_le _)
  (State.retire_headEnded (s := s.removeReady) hq hf' hs).rebase rfl rfl ⟨rfl, rfl, rfl, rfl⟩ rfl

theorem State.HeadEnded.notify (h : s.HeadEnded v m rest o k) (x : Move) (kind : HaltKind) (c : Cause) (d : Bool) :
    s.HeadEnded (v.notify x kind c d) m rest o k := by
  have hr : (v.notify x kind c d).holdsFrame (.report m.origin (s.recordOf m o (some k))) := by
    unfold State.notify
    split
    · exact (State.raiseNotice_follows _ _ _ v).frames.holds rfl h.report
    · exact h.report
  exact ⟨by simpa using h.held, by simpa using h.cause, by simpa using h.queue, by simpa using h.position,
    by simpa using h.step, hr, by simpa using h.blocks, by simpa using h.groups⟩

/-- A reply is queued beside the head's end (R156). -/
theorem State.HeadEnded.fill (h : s.HeadEnded v m rest o k) (f : OutFrame) : s.HeadEnded (v.fill f) m rest o k :=
  ⟨h.held, h.cause, h.queue, h.position, h.step, h.report.imp fun _ he => ⟨List.mem_append_left _ he.1, he.2⟩, h.blocks,
    h.groups⟩

theorem State.HeadEnded.finish (h : s.HeadEnded v m rest o k) : s.HeadEnded v.finish m rest o k := by
  obtain ⟨hheld, hqueue, -, hroll, hlead, hout, hcauses⟩ := State.finish_frame_of_held h.held
  obtain ⟨hstore, hpeer, hout', hinp⟩ := h.blocks
  exact ⟨hheld, hcauses k h.cause, hqueue.trans h.queue, by rw [hlead, h.position], by rw [hlead, h.step],
    State.finish_holdsFrame_of_held h.held (by simp [OutFrame.cls]) h.report,
    ⟨by simpa using hstore, by simpa using hpeer, hout.trans hout', by simpa using hinp⟩, by rw [hroll, h.groups]⟩

end

/-- No READY stands in the Frame Queue of a node that is not ANNOUNCING (R10, R32). -/
theorem State.mid.isReady_false {s : State} (h : s.mid) (hs : s.mc.state ≠ .announcing) :
    ∀ e ∈ s.fq.entries, e.frame.isReady = false := by
  intro e he
  by_contra hr
  have hmem : e.frame ∈ s.fq.readies := FrameQueue.mem_readies.mpr ⟨by simpa using hr, e, he, rfl⟩
  rw [h.readies.1 hs] at hmem
  cases hmem

end Sys2Proof.Machine
end

section
/-! STOP by the node state (R72, R93, R96, R103, R104). -/

-- One proof after another: elaborated side by side they need more threads than the check allows.
set_option deprecated.oldSectionVars true

namespace Sys2Proof.Machine

/-- The slot found room for the request's reply, so an announced or moving head keeps its own (R16, R141, R156). -/
theorem State.opened_mid {s : State} {src : Addr} (h : s.takesRequest src) (hm : s.mid) : (s.opened src).mid := by
  obtain ⟨-, -, -, hroom⟩ := h
  refine State.reserve_mid (State.afterFrame_mid hm src) ?_
  rcases hroom with hroom | hroom <;> simp [State.hasRoom, State.afterFrame, hroom]

theorem haltKindOf_of_lt {n : Nat} (h : 1 < n) : haltKindOf n = none := by
  match n, h with
  | n + 2, _ => rfl

/-- A code that names a kind (R103). -/
theorem haltKindOf_of_le {n : Nat} (h : n ≤ 1) :
    ∃ k, haltKindOf n = some k ∧ (k = .now ↔ n = 1) ∧ (k = .ramp ↔ n = 0) := by
  rcases Nat.le_one_iff_eq_zero_or_eq_one.mp h with rfl | rfl
  · exact ⟨.ramp, rfl, by decide, by decide⟩
  · exact ⟨.now, rfl, by decide, by decide⟩

/-- An accepted STOP acts by the node state, its ACK is queued, and the event ends (R103, R157). -/
theorem exec_stop_of_kind {s : State} {src kind : Nat} {k : HaltKind} (h : s.takesRequest src)
    (hk : haltKindOf kind = some k) (hs : s.mc.state ≠ .unconfigured) (num : Nat) :
    exec (.stop src num kind) s = .next
      ((((s.opened src).stopEffect k).fill (.ack src num RequestKind.stop.code none)).finish) := by
  have hact : (s.opened src).stopAct kind = ((s.opened src).stopEffect k, .ack none) := by
    rw [State.stopAct, if_neg (by simpa using hs), hk]
  exact congrArg Host.Outcome.next (State.request_finish_acked h num .stop hact)

/-! ## The effect by the node state -/

theorem State.stopEffect_of_waiting {s : State} (h : s.mc.state = .idle ∨ s.mc.state = .pending) (k : HaltKind) :
    s.stopEffect k = s.hold .stationStop := by
  unfold State.stopEffect
  rcases h with h | h <;> rw [h]

theorem State.stopEffect_of_held {s : State} (h : s.mc.state = .held) (k : HaltKind) : s.stopEffect k = s := by
  unfold State.stopEffect
  rw [h]

theorem State.stopEffect_ramp_of_stopping {s : State} (h : s.mc.state = .stopping) :
    s.stopEffect .ramp = s.addCause .stationStop := by
  unfold State.stopEffect
  rw [h]

theorem State.stopEffect_of_announced {s : State} (h : s.mc.state.announced = true) (k : HaltKind) :
    s.stopEffect k = s.stopAnnounced := by
  unfold State.stopEffect
  rcases NodeState.announced_iff.mp h with h | h <;> rw [h]

theorem State.stopEffect_now_of_moving {s : State} (h : s.mc.state.moving = true) :
    s.stopEffect .now = s.stopMove .stationStop false := by
  unfold State.stopEffect
  rcases NodeState.moving_iff.mp h with h | h <;> rw [h]

theorem State.stopEffect_ramp_of_running {s : State} (h : s.mc.state = .running) :
    s.stopEffect .ramp = s.rampMove .stationStop := by
  unfold State.stopEffect
  rw [h]

/-! ## A STOP that ends the head -/

/-- The group `g` is told of a halt as `n` says: by its notice, or by the one merged with that which the list held for it
(R93, R96). -/
def State.Told (s v : State) (g : GroupNo) (n : NoticeContent) : Prop :=
  ∃ x ∈ v.mc.notices, x.group = g ∧ (s.noticeFor g = none → x.content = n) ∧
    ∀ e, s.noticeFor g = some e → x.content = mergeContent e.content n

/-- The head of `s` has ended HALTED STATION_STOP in `v`: its group is told with a notice of kind `k`, and no WITHDRAW is
queued (R72, R103, R104). -/
structure State.StopEnds (s v : State) (m : Move) (rest : List Move) (k : HaltKind) : Prop where
  ended     : s.HeadEnded v m rest .halted .stationStop
  withdraws : s.fq.NoNewWithdraw v.fq
  told      : ∀ g, m.group = some g → s.Told v g { kind := k, cause := .stationStop, tag := m.tag }

theorem FrameQueue.sending_congr {q r : FrameQueue} (h : r.inFlight = q.inFlight) : r.sending = q.sending := by
  rw [FrameQueue.sending_eq_head?, FrameQueue.sending_eq_head?, h]

theorem FrameQueue.haltSending_of_sending {q : FrameQueue} (h : q.sending = none) (g : GroupNo) :
    q.haltSending g = false := by
  simp [FrameQueue.haltSending, h]

/-- A head is retired in a state `w` that has the notices of `s` and no new WITHDRAW, and its group is told. -/
theorem State.stopEnds_of_retire {s w : State} {m : Move} {rest : List Move} {k : HaltKind} (hq : w.mc.queue = m :: rest)
    (hended : s.HeadEnded (w.retire .halted (some .stationStop)) m rest .halted .stationStop) (hs : w.fq.sending = none)
    (hw : s.fq.NoNewWithdraw w.fq) (hn : w.mc.notices = s.mc.notices) :
    s.StopEnds ((w.retire .halted (some .stationStop)).notify m k .stationStop false) m rest k where
  ended := hended.notify _ _ _ _
  withdraws := (hw.trans (State.retire_halted_noNewWithdraw hq _)).trans (State.notify_noNewWithdraw _ _ _ _ _)
  told g hg := by
    have hsend : (w.retire .halted (some .stationStop)).fq.sending = none :=
      (FrameQueue.sending_congr (w.retire_keepsReadies .halted _).flight).trans hs
    have hfor : (w.retire .halted (some .stationStop)).noticeFor g = s.noticeFor g := State.noticeFor_congr (by simp [hn]) g
    rw [State.Told, State.notify, hg, ← hfor]
    exact State.raiseNotice_listed (FrameQueue.haltSending_of_sending hsend g) _ _

/-- A STOP ends an announced head, a move stopped at once, and one brought down with the climb counter at 0 (R72, R103,
R104). -/
theorem State.stopEffect_of_ends {s : State} {m : Move} {rest : List Move} {k : HaltKind} (h : s.mid)
    (hsend : s.fq.sending = none) (hq : s.mc.queue = m :: rest)
    (hs : s.mc.state.announced = true ∨ (s.mc.state.moving = true ∧ k = .now) ∨
      (s.mc.state = .running ∧ k = .ramp ∧ s.lead.c = 0)) :
    s.StopEnds (s.stopEffect k) m rest (if s.mc.state.announced = true ∨ k = .now then .now else .ramp) := by
  rcases hs with ha | ⟨hm, rfl⟩ | ⟨hr, rfl, hc⟩
  · have heq : s.stopAnnounced = (s.removeReady.retire .halted (some .stationStop)).notify m .now .stationStop false := by
      rw [State.stopAnnounced, State.head, hq]
      rfl
    rw [State.stopEffect_of_announced ha, heq, if_pos (.inl ha)]
    have hstep := h.lead.2.2.1 (NodeState.not_moving_of_announced ha)
    have hended := State.giveUp_headEnded (o := .halted) (k := .stationStop) hq (h.room (.inl ha)).1 hstep
    refine State.stopEnds_of_retire hq hended ?_ (s.fq.noNewWithdraw_removeQueued _) rfl
    exact (FrameQueue.sending_congr (s.fq.inFlight_removeQueued _)).trans hsend
  · rw [State.stopEffect_now_of_moving hm, State.stopMove_of_short hq (h.lead_short hm hq), if_pos (.inr rfl)]
    exact State.stopEnds_of_retire hq (State.stop_headEnded hq (h.room (.inr hm)).1) hsend (.of_entries rfl) rfl
  · have hm : s.mc.state.moving = true := by rw [hr]; rfl
    rw [State.stopEffect_ramp_of_running hr, State.rampMove_of_climb_zero hq hc (h.lead_short hm hq),
      if_neg (by rw [hr]; decide)]
    exact State.stopEnds_of_retire (w := (s.addCause .stationStop).stopLead) hq
      (State.addCause_stop_headEnded hq (h.room (.inr hm)).1 _) hsend (.of_entries rfl) rfl

theorem State.Told.finish {s v : State} {g : GroupNo} {n : NoticeContent} (h : s.Told v g n) (hv : v.mc.state = .held) :
    s.Told v.finish g n := by
  obtain ⟨x, hx, hgroup, hcontent⟩ := h
  obtain ⟨y, hy, hsaid⟩ := State.finish_notice_of_held hv hx
  obtain ⟨hgy, hcy, -⟩ : y.group = x.group ∧ y.content = x.content ∧ y.upgrade = x.upgrade := by
    simpa [Notice.said] using hsaid
  exact ⟨y, hy, hgy.trans hgroup, hcy ▸ hcontent⟩

/-! ## A STOP that begins a descent -/

theorem FrameQueue.sending_push (q : FrameQueue) (f : OutFrame) : (q.push f).sending = q.sending :=
  FrameQueue.sending_congr (q.inFlight_push f)

theorem FrameQueue.changeHalt_push {q : FrameQueue} {f : OutFrame} {g : GroupNo} (h : f.isHaltFor g = false)
    (n : NoticeContent) : (q.push f).changeHalt g n = (q.changeHalt g n).push f := by
  simp [FrameQueue.changeHalt, FrameQueue.push, h]

/-- It is the same whether a reply is queued before a notice is raised or after (R93, R96, R156). -/
theorem State.fill_raiseNotice {f : OutFrame} (hf : f.cls = .reply) (g : GroupNo) (n : NoticeContent) (d : Bool)
    (s : State) : (s.raiseNotice g n d).fill f = (s.fill f).raiseNotice g n d := by
  have hhalt : f.isHaltFor g = false := Bool.eq_false_iff.mpr fun h => by simp [OutFrame.isHaltFor_cls h] at hf
  have hsend : (s.fill f).fq.haltSending g = s.fq.haltSending g := by
    rw [FrameQueue.haltSending, FrameQueue.haltSending, ← s.fq.sending_push f]
    rfl
  have hfor : (s.fill f).noticeFor g = s.noticeFor g := rfl
  unfold State.raiseNotice
  rw [hfor, hsend]
  split
  · rfl
  · split
    · rfl
    · simp only [State.fill, State.push, State.reserve, State.updFq, State.updMc, ← FrameQueue.changeHalt_push hhalt]
      rfl

/-! ## The request -/

/-- Settles O32: an accepted STOP acts by the node state, and the head that it ends is HALTED and its group told. -/
theorem stopActsByState : Obligations.StopActsByState := by
  intro src num kind s h hok acked added
  have hopened : (s.opened src).mid := State.opened_mid h hok.mid
  have hack : acked.settled := State.answered_settled src hok.settled rfl
  have hquiet {u : State} (hi : u.link.idleCount = 0) (hd : u.mc.linkDue = s.mc.linkDue) (hp : u.mc.state ≠ .pending)
      (hn : u.mc.notices = s.mc.notices) (hu : u.fq = acked.fq) : u.finish = u := by
    refine State.finish_of_settled_of_not_idle (hack.of_not_pending (hd.trans hok.settled.1) hp hn (by rw [hu])) ?_
    simp [hi]
  refine ⟨fun hs => ?_, fun hs hk => ?_, fun hs hk => ?_, fun hs hk => ?_, fun hs hk => ?_, ?_, ?_⟩
  · exact congrArg _ (State.request_finish_refused h hok.settled num _ (if_pos hs))
  · have hact : (s.opened src).stopAct kind = (s.opened src).refuse .badField := by
      rw [State.stopAct, if_neg (by simpa using hs), haltKindOf_of_lt hk]
    exact congrArg _ (State.request_finish_refused h hok.settled num _ hact)
  · obtain ⟨k, hk, -⟩ := haltKindOf_of_le hk
    have hne : s.mc.state ≠ .unconfigured := by rcases hs with hs | hs <;> simp [hs]
    rw [exec_stop_of_kind h hk hne, State.stopEffect_of_waiting (s := s.opened src) hs]
    exact congrArg _ (hquiet rfl rfl nofun rfl rfl)
  · obtain ⟨k, hk, -⟩ := haltKindOf_of_le hk
    rw [exec_stop_of_kind h hk (by simp [hs]), State.stopEffect_of_held (s := s.opened src) hs]
    exact congrArg _ (hquiet (u := acked) rfl rfl (ne_of_eq_of_ne hs nofun) rfl rfl)
  · subst hk
    rw [exec_stop_of_kind h rfl (by simp [hs]), State.stopEffect_ramp_of_stopping (s := s.opened src) hs]
    exact congrArg _ (hquiet rfl rfl (ne_of_eq_of_ne hs nofun) rfl rfl)
  · intro m rest hq hk hs
    obtain ⟨k, hk, hnow, hramp⟩ := haltKindOf_of_le hk
    have hends := State.stopEffect_of_ends (k := k) hopened h.2.2.1 hq
      (hs.imp_right (Or.imp (And.imp_right hnow.mpr) fun ⟨hr, hk0, hc⟩ => ⟨hr, hramp.mpr hk0, hc⟩))
    have hkind : (if (s.opened src).mc.state.announced = true ∨ k = .now then HaltKind.now else .ramp) =
        if s.mc.state.announced = true ∨ kind = 1 then .now else .ramp := if_congr (or_congr Iff.rfl hnow) rfl rfl
    rw [hkind] at hends
    have hne : s.mc.state ≠ .unconfigured := State.ne_unconfigured_of_queue hok.causes (by simp [hq])
    have hexec := exec_stop_of_kind h hk hne num
    have hfilled := hends.ended.fill (.ack src num RequestKind.stop.code none)
    have hend := hfilled.finish
    obtain ⟨hstore, -, hout, hinp⟩ := hend.blocks
    have hwithdraws := (hends.withdraws.trans (FrameQueue.noNewWithdraw_fill _ rfl)).trans
      (State.finish_noNewWithdraw_of_held hfilled.held (by simp [State.fill_frame]))
    have htold (g) (hg : m.group = some g) := State.Told.finish (v := ((s.opened src).stopEffect k).fill _) (hends.told g hg)
      hfilled.held
    exact ⟨_, hexec, hend.held, hend.queue, hend.cause, hend.position, hend.step, hend.report, htold,
      fun _ => (exec_mid hok.mid hexec).isReady_false (by rw [hend.held]; nofun), hwithdraws, hstore, hinp, hout,
      hend.groups⟩
  · intro m rest hq hs hk hc descending
    subst hk
    have heq := exec_stop_of_kind (kind := 0) (k := .ramp) h rfl (by simp [hs]) num
    rw [State.stopEffect_ramp_of_running (s := s.opened src) hs,
      State.rampMove_of_climb_pos (s := s.opened src) hq hc] at heq
    rw [heq]
    cases hg : m.group with
    | none =>
      simp only [State.notify, hg]
      exact congrArg _ (hquiet (u := descending) rfl rfl nofun rfl rfl)
    | some g =>
      simp only [State.notify, hg]
      rw [State.fill_raiseNotice rfl]
      rfl

end Sys2Proof.Machine
end

section
/-! A limit, DALM or STOPIN registered asserted (R41, R42, R82, R83, R97 to R100, R132). -/

-- One proof after another: elaborated side by side they need more threads than the check allows.
set_option deprecated.oldSectionVars true

namespace Sys2Proof.Machine

/-! ## A head that an input ends -/

/-- The head of `s` has ended in `v` for the cause `k` of an input: a move in hand HALTED with its group told NOW, an
announced head FAILED with its WITHDRAW queued (R41, R93, R97, R99). -/
structure State.EndedByInput (s v : State) (m : Move) (rest : List Move) (k : Cause) : Prop where
  ended     : s.HeadEnded v m rest (if s.mc.state.moving = true then .halted else .failed) k
  told      : ∀ g, s.mc.state.moving = true → m.group = some g → ∃ n ∈ v.mc.notices, n.group = g ∧
    (n.content.kind = .now ∨ ∃ w, n.upgrade = some w ∧ w.kind = .now) ∧
    (s.noticeFor g = none → n.content = { kind := .now, cause := k, tag := m.tag })
  withdrawn : s.mc.state.announced = true → ∀ g, m.group = some g → s.withdrawFits → v.holdsFrame (.withdraw g m.tag k)

section

variable {s : State} {m : Move} {rest : List Move} {k : Cause}

theorem State.stopMove_endedByInput (h : s.mid) (hm : s.mc.state.moving = true) (hq : s.mc.queue = m :: rest) :
    s.EndedByInput (s.stopMove k false).finish m rest k := by
  rw [State.stopMove_of_short hq (h.lead_short hm hq)]
  have hended := (State.stop_headEnded (o := .halted) (k := k) hq (h.room (.inr hm)).1).notify m .now k false
  refine ⟨by rw [if_pos hm]; exact hended.finish, fun g _ hg => ?_, fun ha => ?_⟩
  · have hfor : (s.stopLead.retire .halted (some k)).noticeFor g = s.noticeFor g := State.noticeFor_congr (by simp) g
    obtain ⟨x, hx, hgroup, hnow, hnone⟩ := State.raiseNotice_now (s := s.stopLead.retire .halted (some k)) (g := g)
      (n := { kind := .now, cause := k, tag := m.tag }) rfl false
    obtain ⟨y, hy, hsaid⟩ := State.finish_notice_of_held hended.held (n := x) (by rw [State.notify, hg]; exact hx)
    obtain ⟨hgy, hcy, huy⟩ : y.group = x.group ∧ y.content = x.content ∧ y.upgrade = x.upgrade := by
      simpa [Notice.said] using hsaid
    exact ⟨y, hy, hgy.trans hgroup, hcy ▸ huy ▸ hnow, hcy ▸ hfor ▸ hnone⟩
  · simp [NodeState.not_moving_of_announced ha] at hm

/-- A cause of R41 that arrives while the READY is in transmission is kept, and nothing follows (R42). -/
theorem State.failAnnounced_finish_of_sending (h : s.settled) (hs : s.mc.state = .announcing)
    (hr : s.fq.readySending = true) :
    (s.failAnnounced k).finish = { s with mc := { s.mc with kept := s.mc.kept ++ [k] } } := by
  rw [State.failAnnounced, if_pos ⟨hs, hr⟩]
  refine (State.finish_of_settled ?_).trans (State.offer_of_sending (FrameQueue.sending_of_readySending hr))
  exact h.of_not_pending h.1 (by simp [hs]) rfl rfl

theorem State.failAnnounced_endedByInput (h : s.mid) (hshares : s.sharesOk) (hq : s.mc.queue = m :: rest)
    (hs : s.mc.state = .armed ∨ (s.mc.state = .announcing ∧ s.fq.readySending = false)) (hk : k ≠ .peerWithdrew) :
    s.EndedByInput (s.failAnnounced k).finish m rest k := by
  have ha : s.mc.state.announced = true := NodeState.announced_iff.mpr (hs.symm.imp_left And.left)
  have hm := NodeState.not_moving_of_announced ha
  have hno : ¬(s.mc.state = .announcing ∧ s.fq.readySending = true) := by
    rcases hs with hs | ⟨-, hr⟩ <;> simp [*]
  rw [State.failAnnounced, if_neg hno]
  have hended := (State.giveUp_headEnded (o := .failed) (k := k) hq (h.room (.inl ha)).1 (h.lead.2.2.1 hm)).finish
  refine ⟨by rw [if_neg (by simp [hm])]; exact hended, fun g hmv => ?_, fun _ g hg hw => ?_⟩
  · simp [hm] at hmv
  · refine State.retire_finish_holds (s := s.removeReady) hq .failed k (by simp [OutFrame.cls]) ?_
    exact State.retire_holds_withdraw (s := s.removeReady) hq hg hk (State.count_removeReady hshares hw)

end

/-! ## The limits -/

theorem limitAhead_iff (side : LimitSide) (d : Int) :
    limitAhead side d = true ↔ (side = .positive ∧ 0 < d) ∨ (side = .negative ∧ d < 0) := by
  cases side <;> simp [limitAhead]

/-- A limit that is not ahead, or finds no head announced or in motion, brings nothing (R82, R99). -/
theorem State.limitDelivered_of_ignored {s : State} {side : LimitSide}
    (h : (∀ m ∈ s.mc.queue.head?, limitAhead side m.dist = false) ∨
      (s.mc.state.announced = false ∧ s.mc.state.moving = false)) : s.limitDelivered side = s := by
  unfold State.limitDelivered
  split
  · rename_i m hm
    rcases h with h | ⟨ha, hmv⟩
    · rw [if_neg (by simp [h m hm])]
    · simp [ha, hmv]
  · rfl

theorem State.limitDelivered_of_announced {s : State} {side : LimitSide} {m : Move} {rest : List Move}
    (hq : s.mc.queue = m :: rest) (hahead : limitAhead side m.dist = true) (ha : s.mc.state.announced = true) :
    s.limitDelivered side = (s.failAnnounced .limitActive).finish := by
  simp [State.limitDelivered, State.head, hq, hahead, ha]

theorem State.limitDelivered_of_moving {s : State} {side : LimitSide} {m : Move} {rest : List Move}
    (hq : s.mc.queue = m :: rest) (hahead : limitAhead side m.dist = true) (hm : s.mc.state.moving = true) :
    s.limitDelivered side = (s.stopMove .limit false).finish := by
  have ha : s.mc.state.announced = false := Bool.eq_false_iff.mpr fun ha => by
    simp [NodeState.not_moving_of_announced ha] at hm
  simp [State.limitDelivered, State.head, hq, hahead, ha, hm]

/-- Settles O50: a limit that is registered acts on a head that it lies ahead of, by the node state. -/
theorem limitAsserted : Obligations.LimitAsserted := by
  intro side s hok c i on u ahead
  have hi : limitInput side = i := by cases side <;> rfl
  have hexec (hr : s.link.inReset = false) :
      exec c s = .next (if s.asserted i = true then u else u.limitDelivered side) := by
    refine congrArg Host.Outcome.next ?_
    rw [State.slotPassed_false, State.assertion, hr, hi]
    rfl
  have hahead (m : Move) : limitAhead side m.dist = true ↔ ahead m := limitAhead_iff side m.dist
  have hu : u.mid := State.register_mid hok.mid i _
  refine ⟨fun hr => ?_, fun hr => ⟨fun hno => ?_, ?_⟩⟩
  · refine congrArg Host.Outcome.next ?_
    rw [State.slotPassed_false, State.assertion, hr]
    rfl
  · rw [hexec hr]
    split
    · rfl
    · refine congrArg _ (State.limitDelivered_of_ignored (s := u) ((hno.resolve_left ‹_›).imp_left fun h m hm => ?_))
      simpa using mt (hahead m).mp (h m hm)
  intro m rest hna hq hm
  rw [hexec hr, hna, if_neg Bool.false_ne_true]
  replace hm := (hahead m).mpr hm
  refine ⟨fun hs hsend => ?_, fun hs => ?_⟩
  · rw [State.limitDelivered_of_announced (s := u) hq hm (NodeState.announced_iff.mpr (.inl hs))]
    exact congrArg _ (State.failAnnounced_finish_of_sending (s := u) (hok.settled.of_frame rfl rfl le_rfl rfl) hs hsend)
  · intro cause
    have hended : u.EndedByInput (u.limitDelivered side) m rest cause := by
      rcases hs with hmv | hs
      · rw [State.limitDelivered_of_moving (s := u) hq hm hmv, show cause = .limit from if_pos hmv]
        exact State.stopMove_endedByInput hu hmv hq
      · have ha : s.mc.state.announced = true := NodeState.announced_iff.mpr (hs.symm.imp_left And.left)
        have hk : cause = .limitActive := if_neg (by simp [NodeState.not_moving_of_announced ha])
        rw [State.limitDelivered_of_announced (s := u) hq hm ha, hk]
        exact State.failAnnounced_endedByInput hu hok.shares hq hs nofun
    have hv : (u.limitDelivered side).mid := State.limitDelivered_mid hu side
    obtain ⟨hend, htold, hwithdrawn⟩ := hended
    obtain ⟨hstore, hpeer, hout, hinp⟩ := hend.blocks
    exact ⟨_, rfl, hend.held, hend.cause, hend.queue, hend.step, hend.position, hend.report, htold,
      fun ha => ⟨fun _ => hv.isReady_false (by rw [hend.held]; nofun), hwithdrawn ha⟩, hinp, hstore, hpeer, hend.groups,
      hout⟩

/-! ## DALM and STOPIN -/

theorem State.localStop_of_waiting {s : State} (h : s.mc.state = .idle ∨ s.mc.state = .pending) (c : Cause) :
    s.localStop c = s.hold c := by
  unfold State.localStop
  rcases h with h | h <;> rw [h]

theorem State.localStop_of_announced {s : State} (h : s.mc.state.announced = true) (c : Cause) :
    s.localStop c = s.failAnnounced c := by
  unfold State.localStop
  rcases NodeState.announced_iff.mp h with h | h <;> rw [h]

theorem State.localStop_of_moving {s : State} (h : s.mc.state.moving = true) (c : Cause) :
    s.localStop c = s.stopMove c false := by
  unfold State.localStop
  rcases NodeState.moving_iff.mp h with h | h <;> rw [h]

theorem State.localStop_of_held {s : State} (h : s.mc.state = .held) (c : Cause) : s.localStop c = s.addCause c := by
  unfold State.localStop
  rw [h]

theorem State.updOut_mid {s : State} (h : s.mid) (f : Outputs → Outputs) : (s.updOut f).mid := h.congr { flight := h.flight }

/-- Settles O51: DREN goes inactive at the registration on a configured node, which acts by its state. -/
theorem driveAlarmAndStopInputAsserted : Obligations.DriveAlarmAndStopInputAsserted := by
  intro alarm s hok hr c i cause on u cut added
  have hcause : cause ∈ failureCauses := by cases alarm <;> simp [cause, failureCauses]
  have hexec : exec c s = .next (if s.asserted i = true then u else u.driveStop cause) := by
    cases alarm <;> refine congrArg Host.Outcome.next ?_ <;> rw [State.slotPassed_false, State.assertion, hr] <;> rfl
  have hu : u.mid := State.register_mid hok.mid i _
  have hcut : cut.mid := State.updOut_mid hu fun o => { o with dren := false }
  have hset : cut.settled := hok.settled.of_frame rfl rfl le_rfl rfl
  have hdrive (hna : s.asserted i = false) (hs : s.mc.state ≠ .unconfigured) :
      exec c s = .next (cut.localStop cause).finish := by
    rw [hexec, hna, if_neg Bool.false_ne_true]
    exact congrArg _ (if_neg hs)
  refine ⟨fun h => ?_, fun hna => ⟨fun hs => ?_, fun hs => ?_, fun hs hsend => ?_, fun m rest hq hs => ?_⟩⟩
  · rw [hexec]
    split
    · rfl
    · exact congrArg _ (if_pos (h.resolve_left ‹_›))
  · rw [hdrive hna (by rcases hs with hs | hs <;> simp [hs]), State.localStop_of_waiting (s := cut) hs]
    exact congrArg _ (State.finish_of_settled (State.hold_settled cause hset))
  · rw [hdrive hna (by simp [hs]), State.localStop_of_held (s := cut) hs]
    exact congrArg _ (State.finish_of_settled (hset.of_not_pending hset.1 (by simp [cut, u, hs]) rfl rfl))
  · rw [hdrive hna (by simp [hs]), State.localStop_of_announced (s := cut) (NodeState.announced_iff.mpr (.inl hs))]
    exact congrArg _ (State.failAnnounced_finish_of_sending (s := cut) hset hs hsend)
  · have hne : s.mc.state ≠ .unconfigured := State.ne_unconfigured_of_queue hok.causes (by simp [hq])
    have hended : cut.EndedByInput (cut.localStop cause).finish m rest cause := by
      rcases hs with hmv | hs
      · rw [State.localStop_of_moving (s := cut) hmv]
        exact State.stopMove_endedByInput hcut hmv hq
      · rw [State.localStop_of_announced (s := cut) (NodeState.announced_iff.mpr (hs.symm.imp_left And.left))]
        exact State.failAnnounced_endedByInput hcut hok.shares hq hs (by cases alarm <;> nofun)
    have hv : (cut.localStop cause).finish.mid := State.finish_mid (State.localStop_mid hcut hcause)
    obtain ⟨hend, htold, hwithdrawn⟩ := hended
    obtain ⟨hstore, hpeer, hout, hinp⟩ := hend.blocks
    exact ⟨_, hdrive hna hne, hend.held, hend.cause, hend.queue, hend.step, hend.position, hend.report, htold,
      fun ha => ⟨fun _ => hv.isReady_false (by rw [hend.held]; nofun), hwithdrawn ha⟩, hout, hinp, hstore, hpeer,
      hend.groups⟩

end Sys2Proof.Machine
end

section
/-! A HALT of another node (R22, R31, R72, R87 to R92, R95). -/

-- One proof after another: elaborated side by side they need more threads than the check allows.
set_option deprecated.oldSectionVars true

namespace Sys2Proof.Machine

/-! ## This node's own notice -/

/-- With nothing in transmission a HALT taken removes this node's notice for the group, if it is NOW or the notice is RAMP,
and the HALT queued for it (R95). -/
theorem State.haltMeetsNotice_of_removed {s : State} {g : GroupNo} {k : HaltKind} (hs : s.fq.sending = none)
    (h : ∃ n ∈ s.noticeFor g, k = .now ∨ n.content.kind = .ramp) :
    s.haltMeetsNotice g k =
      { s with mc := { s.mc with notices := s.mc.notices.filter fun x => decide (x.group ≠ g) }
               fq := { s.fq with entries := s.fq.entries.filter fun e => !e.frame.isHaltFor g } } := by
  obtain ⟨n, hn, hk⟩ := h
  have hremoved := FrameQueue.removeQueued_of_not_sending hs (OutFrame.isHaltFor g)
  rw [State.haltMeetsNotice, hn]
  refine (if_pos hk).trans ?_
  rw [← hremoved]
  rfl

theorem State.haltMeetsNotice_of_kept {s : State} {g : GroupNo} {k : HaltKind}
    (h : ¬∃ n ∈ s.noticeFor g, k = .now ∨ n.content.kind = .ramp) : s.haltMeetsNotice g k = s := by
  unfold State.haltMeetsNotice
  split
  · rename_i n hn
    exact if_neg fun hk => h ⟨n, hn, hk⟩
  · rfl

/-- On a node that is not PENDING, the end of an event with no LINK cause due and the bus not idle only fills the URGENT
share (R94). -/
theorem State.finish_eq_fillUrgent {s : State} (hd : s.mc.linkDue = false) (hp : s.mc.state ≠ .pending)
    (hi : s.link.idleCount ≠ 12) : s.finish = s.fillUrgent := by
  rw [State.finish, State.settle_of_not_pending _ hd hp, State.offer_of_not_idle (by simpa using hi)]

/-! ## The action by the node state -/

section

variable {s : State} {m : Move} {rest : List Move} {g : GroupNo} {k : HaltKind} {c : Cause}

theorem State.haltAct_of_waiting (h : s.mc.state = .idle ∨ s.mc.state = .pending) : s.haltAct g k c = s.hold c := by
  unfold State.haltAct
  rcases h with h | h <;> rw [h]

theorem State.haltAct_of_held (h : s.mc.state = .held) : s.haltAct g k c = s.addCause c := by
  unfold State.haltAct
  rw [h]

theorem State.headGroup_of_cons (hq : s.mc.queue = m :: rest) : s.headGroup = m.group := by
  rw [State.headGroup, State.head, hq]
  rfl

/-- A move of another group or of none goes on, and the node is held at its end (R22, R90). -/
theorem State.haltAct_of_other (hm : s.mc.state.moving = true) (hq : s.mc.queue = m :: rest) (hg : m.group ≠ some g) :
    s.haltAct g k c = s.setHoldPending c := by
  have hh : ¬s.headGroup = some g := by rwa [State.headGroup_of_cons hq]
  unfold State.haltAct
  rcases NodeState.moving_iff.mp hm with hm | hm <;> rw [hm] <;> exact if_neg hh

theorem State.haltAct_ramp_of_stopping (h : s.mc.state = .stopping) (hq : s.mc.queue = m :: rest) (hg : m.group = some g) :
    s.haltAct g .ramp c = s.addCause c := by
  unfold State.haltAct
  rw [h]
  exact if_pos ((State.headGroup_of_cons hq).trans hg)

theorem State.haltAct_ramp_of_running (h : s.mc.state = .running) (hq : s.mc.queue = m :: rest) (hg : m.group = some g) :
    s.haltAct g .ramp c = (s.addCause c).haltDescent c := by
  unfold State.haltAct
  rw [h]
  exact if_pos ((State.headGroup_of_cons hq).trans hg)

theorem State.haltAct_now_of_moving (hm : s.mc.state.moving = true) (hq : s.mc.queue = m :: rest) (hg : m.group = some g) :
    s.haltAct g .now c = s.haltMove c := by
  have hh : s.headGroup = some g := (State.headGroup_of_cons hq).trans hg
  unfold State.haltAct
  rcases NodeState.moving_iff.mp hm with hm | hm <;> rw [hm] <;> exact if_pos hh

theorem State.haltAct_of_announced (ha : s.mc.state.announced = true) (hq : s.mc.queue = m :: rest) :
    s.haltAct g k c = s.giveUp (if m.group = some g then .halted else .failed) c [] := by
  unfold State.haltAct
  rcases NodeState.announced_iff.mp ha with ha | ha <;> rw [ha] <;> dsimp only <;>
    rw [State.headGroup_of_cons hq, apply_ite fun o => s.giveUp o c []]

end

/-! ## A HALT that ends the head -/

/-- The head of `s` has ended in `v` by a HALT for the group `g`, with the cause `c` that it records: HALTED and without a
WITHDRAW if it is of the group, and FAILED with its WITHDRAW queued if it is of another (R21, R88, R91). -/
structure State.EndedByHalt (s v : State) (m : Move) (rest : List Move) (g : GroupNo) (c : Cause) : Prop where
  ended     : s.HeadEnded v m rest (if m.group = some g then .halted else .failed) c
  withdraws : m.group = some g → s.fq.NoNewWithdraw v.fq
  withdrawn : ∀ h, m.group = some h → h ≠ g → s.removeReady.fq.count .sync < 6 → v.holdsFrame (.withdraw h m.tag c)

section

variable {s : State} {m : Move} {rest : List Move} {g : GroupNo} {k : HaltKind} {c : Cause}

/-- A move of the group is retired HALTED, in a state `w` that has the WITHDRAWs of `s`. -/
theorem State.endedByHalt_of_retire {w : State} (hq : w.mc.queue = m :: rest) (hg : m.group = some g)
    (hended : s.HeadEnded (w.retire .halted (some c)) m rest .halted c) (hw : s.fq.NoNewWithdraw w.fq) :
    s.EndedByHalt (w.retire .halted (some c)) m rest g c where
  ended := by rwa [if_pos hg]
  withdraws _ := hw.trans (State.retire_halted_noNewWithdraw hq _)
  withdrawn h hh hne := absurd (Option.some.inj (hh.symm.trans hg)) hne

/-- An announced head is given up (R91). -/
theorem State.giveUp_endedByHalt (h : s.mid) (ha : s.mc.state.announced = true) (hq : s.mc.queue = m :: rest)
    (hc : c ≠ .peerWithdrew) : s.EndedByHalt (s.giveUp (if m.group = some g then .halted else .failed) c []) m rest g c := by
  have hended (o : RetireOutcome) : s.HeadEnded (s.giveUp o c []) m rest o c :=
    State.giveUp_headEnded hq (h.room (.inl ha)).1 (h.lead.2.2.1 (NodeState.not_moving_of_announced ha))
  refine ⟨hended _, fun hg => ?_, fun x hx hne hroom => ?_⟩
  · rw [if_pos hg]
    exact (s.fq.noNewWithdraw_removeQueued _).trans (State.retire_halted_noNewWithdraw (s := s.removeReady) hq _)
  · rw [if_neg (by simpa [hx] using hne)]
    exact State.retire_holds_withdraw (s := s.removeReady) hq hx hc hroom

/-- A HALT ends an announced head, and a move of its group that it stops at once (R72, R88). -/
theorem State.haltAct_of_ends (h : s.mid) (hq : s.mc.queue = m :: rest) (hc : c ≠ .peerWithdrew)
    (hs : s.mc.state.announced = true ∨ (s.mc.state.moving = true ∧ m.group = some g ∧
      (k = .now ∨ (s.mc.state = .running ∧ s.lead.c = 0)))) : s.EndedByHalt (s.haltAct g k c) m rest g c := by
  rcases hs with ha | ⟨hm, hg, hk⟩
  · rw [State.haltAct_of_announced ha hq]
    exact State.giveUp_endedByHalt h ha hq hc
  · have hfree := (h.room (.inr hm)).1
    have hp := h.lead_short hm hq
    cases k with
    | now =>
      rw [State.haltAct_now_of_moving hm hq hg, State.haltMove_of_short hq hp]
      exact State.endedByHalt_of_retire hq hg (State.stop_headEnded hq hfree) (.of_entries rfl)
    | ramp =>
      obtain ⟨hr, hzero⟩ := hk.resolve_left nofun
      have hdescent : (s.addCause c).haltDescent c = (s.addCause c).haltMove c := if_pos hzero
      rw [State.haltAct_ramp_of_running hr hq hg, hdescent, State.haltMove_of_short (s := s.addCause c) hq hp]
      exact State.endedByHalt_of_retire (w := (s.addCause c).stopLead) hq hg (State.addCause_stop_headEnded hq hfree c)
        (.of_entries rfl)

end

theorem FrameQueue.count_removeQueued_mono {q r : FrameQueue} (h : r.entries.Sublist q.entries) (pick : OutFrame → Bool)
    (c : FrameClass) : (r.removeQueued pick).count c ≤ (q.removeQueued pick).count c := (h.filter _).countP_le

theorem GroupEntry.haltCause_ne_peerWithdrew (e : GroupEntry) (src : Addr) : e.haltCause src ≠ .peerWithdrew := by
  unfold GroupEntry.haltCause
  split <;> nofun

/-- Settles O40: the frame is heard, the roll is emptied, this node's own notice is judged, and the HALT acts by the node
state. -/
theorem haltTaken : Obligations.HaltTaken := by
  intro src g k carried tag s h hok c
  obtain ⟨hears, hpresent⟩ := h
  have ⟨_, hself, hsend, _⟩ := hears
  have hexec : exec c s = .next ((s.afterFrame src).haltTake src g k).finish := by
    refine congrArg Host.Outcome.next ((State.takeFrom_of_hears hears _ _).trans ?_)
    rw [State.hear_configured hpresent]
  refine ⟨fun hn => ?_, ?_⟩
  · have hignored : (s.afterFrame src).haltTake src g k = s.afterFrame src := by
      rw [State.haltTake, show (s.afterFrame src).groupEntry g = none from hn]
    rw [hexec, hignored, State.finish_of_heard (t := s.afterFrame src) hok.settled rfl rfl rfl rfl]
  intro entry he cause removes u added becomes
  let w : State := (s.afterFrame src).updGroup g (·.emptyAll)
  have hmeets : w.haltMeetsNotice g k = u := by
    by_cases hr : removes
    · rw [State.haltMeetsNotice_of_removed (s := w) hsend hr]
      simp only [u, if_pos hr]
      rfl
    · rw [State.haltMeetsNotice_of_kept (s := w) hr]
      simp only [u, if_neg hr]
      rfl
  have hact : exec c s = .next (u.haltAct g k cause).finish := by
    rw [hexec, State.haltTake, show (s.afterFrame src).groupEntry g = some entry from he, ← hmeets]
    rfl
  have hbecomes {v : State} (hv : u.haltAct g k cause = v) (hp : v.mc.state ≠ .pending) (hd : v.mc.linkDue = s.mc.linkDue)
      (hi : v.link.idleCount = 0) (hn : v.mc.notices = u.mc.notices) (hf : v.fq = u.fq) : becomes v := by
    have hfill : exec c s = .next v.fillUrgent := by
      rw [hact, hv, State.finish_eq_fillUrgent (hd.trans hok.settled.1) hp (by simp [hi])]
    refine ⟨hfill, fun hr => hfill.trans (congrArg _ (State.fillUrgent_of_none ?_))⟩
    rw [hn, hf]
    simp only [u, if_neg hr]
    exact hok.settled.2.2
  refine ⟨fun hs => ?_, fun hs => ?_, fun m rest hq =>
    ⟨fun hm hg => ?_, fun hs hg hk => ?_, fun hs hg hk hc => ?_, fun hs => ?_⟩⟩
  · exact hbecomes (State.haltAct_of_waiting (s := u) hs) nofun rfl rfl rfl rfl
  · exact hbecomes (State.haltAct_of_held (s := u) hs) (ne_of_eq_of_ne hs nofun) rfl rfl rfl rfl
  · have hp : s.mc.state ≠ .pending := fun hp => by
      rw [hp] at hm
      cases hm
    exact hbecomes (State.haltAct_of_other (s := u) hm hq hg) hp rfl rfl rfl rfl
  · subst hk
    exact hbecomes (State.haltAct_ramp_of_stopping (s := u) hs hq hg) (ne_of_eq_of_ne hs nofun) rfl rfl rfl rfl
  · subst hk
    exact hbecomes ((State.haltAct_ramp_of_running (s := u) hs hq hg).trans (if_neg hc.ne')) nofun rfl rfl rfl rfl
  · have hmid := exec_mid hok.mid hact
    have hu : u.mid := hmeets ▸ State.haltMeetsNotice_mid (State.updGroup_mid (State.afterFrame_mid hok.mid src) g
      ((·.emptyAll)) (fun _ => rfl) fun e => e.emptyAll_members) g k
    obtain ⟨hended, hwithdraws, hwithdrawn⟩ := State.haltAct_of_ends (s := u) (k := k) (c := cause) hu hq
      (entry.haltCause_ne_peerWithdrew src) hs
    have hend := hended.finish
    obtain ⟨hstore, -, hout, hinp⟩ := hend.blocks
    have hsub : u.fq.entries.Sublist s.fq.entries := by
      simp only [u]
      split
      · exact List.filter_sublist
      · exact .refl _
    refine ⟨_, hact, hend.held, hend.cause, hend.queue, ?_, hend.groups, hend.position, hend.step, hend.report,
      hmid.isReady_false (by rw [hend.held]; nofun), fun hg e hm x t n hf => ?_, fun x hx hne hw => ?_, hstore, hout, hinp⟩
    · have hsaid := State.finish_said_of_held hended.held
      rw [(State.haltAct_frame g k cause u).2.2.2.2.2.2] at hsaid
      simpa [List.map_map, Function.comp_def, Notice.said] using congrArg (List.map fun x => (x.1, x.2.1)) hsaid
    · have hnew := (hwithdraws hg).trans (State.finish_noNewWithdraw_of_held hended.held (by simp [u, State.afterFrame]))
      exact hsub.subset (hnew e hm x t n hf)
    · refine State.finish_holdsFrame_of_held hended.held (by simp [OutFrame.cls]) (hwithdrawn x hx hne ?_)
      exact (FrameQueue.count_removeQueued_mono hsub _ _).trans_lt (State.count_removeReady hok.shares hw)

end Sys2Proof.Machine
end

section
/-! Power-on, RESET, the state after reset, the levels of the input lines, and dominant bits (R120, R121, R132, R136, R137). -/

-- One proof after another: elaborated side by side they need more threads than the check allows.
set_option deprecated.oldSectionVars true

namespace Sys2Proof.Machine

/-! ## Power-on and reset -/

/-- Settles O3: each block's power-on state is the one its own table gives. -/
theorem powerOnAndResetState : Obligations.PowerOnAndResetState := by
  intro addr rate s line on
  have hpowerOn : exec (.powerOn addr rate) s = .next (State.powerOn addr rate s.inp s.pending) := rfl
  have hreset : exec .resetAsserted s = .next s.underReset := rfl
  exact ⟨hpowerOn, hreset⟩

/-- No entry and no reservation take a share at power-on (R150, R156). -/
theorem State.powerOn_sharesOk (a : BitVec 5) (r : BitVec 2) (i : Inputs) (p : List Sys2Proof.Instr) :
    (State.powerOn a r i p).sharesOk := ⟨fun k => Nat.zero_le (share k), nofun⟩

/-- Nothing is left to do at power-on: no cause due, no PENDING head, no notice (R24, R93). -/
theorem State.powerOn_settled (a : BitVec 5) (r : BitVec 2) (i : Inputs) (p : List Sys2Proof.Instr) :
    (State.powerOn a r i p).settled := by
  have hstate : (State.powerOn a r i p).mc.state = .unconfigured := rfl
  have hnotices : (State.powerOn a r i p).mc.notices = [] := rfl
  refine ⟨rfl, fun hp => ?_, fun _ n hn => ?_⟩
  · rw [hstate] at hp
    cases hp
  · rw [hnotices] at hn
    cases hn

/-- The power-on state meets every invariant, whatever the straps, the lines and the commands that wait. -/
theorem State.powerOn_ok (a : BitVec 5) (r : BitVec 2) (i : Inputs) (p : List Sys2Proof.Instr) :
    (State.powerOn a r i p).ok := by
  have hm := State.powerOn_mid a r i p
  have hf := State.powerOn_firm (b := False) id a r i p
  exact {
    shares := State.powerOn_sharesOk a r i p
    queue := hm.queue
    lead := hm.lead
    room := hm.room
    causes := hm.causes
    config := hf.configOk hm
    tables := hf.tablesOk hm
    ready := hm.readyOk
    link := hf.linkOk hm
    marks := hm.marks
    notices := hm.notices
    settled := State.powerOn_settled a r i p }

/-- Settles O4: the state after reset is a power-on state. -/
theorem resetMeetsTheInvariants : Obligations.ResetMeetsTheInvariants :=
  State.powerOn_ok Config.resetAddr Config.resetRate Inputs.reset []

/-! ## The input lines and the idle count -/

/-- Settles O53: an inactive level is registered without an action, a line that changes starts its filter time, and a
dominant bit is told apart by the frame in progress and the idle count. -/
theorem inputLevelsAndIdleCount : Obligations.InputLevelsAndIdleCount := by
  intro i l s off
  have hinactive : exec (.inputChangeInactive i) s = .next (s.inactive i) := rfl
  have hline : exec (.lineLevelChange i l) s = .next (s.lineChange i l) := rfl
  have hbit : exec .dominantBitOutsideFrame s = .next s.dominantBit := rfl
  refine ⟨fun hr => ?_, fun hl => ?_, fun hl => ?_, fun hf hi => ?_, fun hf hi => ?_, fun hf => ?_⟩
  · rw [hinactive, State.inactive, hr]
    rfl
  · rw [hline, State.lineChange, if_neg hl]
    rfl
  · rw [hline, State.lineChange, if_pos hl]
  · rw [hbit, State.dominantBit, hf]
    exact congrArg _ (if_pos hi)
  · rw [hbit, State.dominantBit, hf]
    exact congrArg _ (if_neg hi.ge.not_gt)
  · rw [hbit, State.dominantBit_of_inFrame hf]

end Sys2Proof.Machine
end

section
/-! The CONFIG records: the common path of a record through its checks into the Configuration Store, and the records
GROUP, PROFILE, LIMITS, TIMING and INPUTS (R123 to R129). -/

-- One proof after another: elaborated side by side they need more threads than the check allows.
set_option deprecated.oldSectionVars true

namespace Sys2Proof.Machine

/-! ## The common path of a record -/

/-- The reason the Configuration Store refuses a record for, if any: BAD_STATE once committed, and the first check that fails
before (R123). -/
def State.recordRefusal (s : State) (checks : List (Bool × NakReason)) : Option NakReason :=
  if s.store.committed = true then some .badState else firstFailing checks

theorem State.configure_of_refused {s : State} {checks : List (Bool × NakReason)} {r : NakReason}
    (h : s.recordRefusal checks = some r) (store : Store → Store) : s.configure checks store = s.refuse r := by
  unfold State.recordRefusal at h
  unfold State.configure
  split
  · rw [if_pos ‹_›] at h
    cases h
    rfl
  · rw [if_neg ‹_›] at h
    rw [h]

theorem State.configure_of_passed {s : State} {checks : List (Bool × NakReason)} (h : s.recordRefusal checks = none)
    (store : Store → Store) : s.configure checks store = (s.updStore store, .ack none) := by
  unfold State.recordRefusal at h
  unfold State.configure
  split
  · rw [if_pos ‹_›] at h
    cases h
  · rw [if_neg ‹_›] at h
    rw [h]

section

variable {s : State} {src : Addr}

/-- A request that is acknowledged: its action's change stands, and nothing is offered, the slot having just ended (R157). -/
theorem State.request_acked {u : State} (h : s.takesRequest src) (num : Nat) (k : RequestKind) {act : State → State × Reply}
    {d : Option Nat} (ha : act (s.opened src) = (u, .ack d)) (hl : u.link = (s.opened src).link) :
    s.request src num k act State.offer = u.fill (.ack src num k.code d) := by
  rw [State.request_of_takes h, ha]
  exact State.offer_fill_opened _ hl

/-- A CONFIG record that a check refuses (R123, R157). -/
theorem State.config_refused (h : s.takesRequest src) (num : Nat) {checks : State → List (Bool × NakReason)}
    (store : Store → Store) {r : NakReason} (hr : (s.opened src).recordRefusal (checks (s.opened src)) = some r) :
    s.request src num .config (fun u => u.configure (checks u) store) State.offer = s.refused src num .config r :=
  State.request_refused h num .config _ (State.configure_of_refused hr store)

/-- A CONFIG record that passes its checks is stored (R123, R157). -/
theorem State.config_stored (h : s.takesRequest src) (num : Nat) {checks : State → List (Bool × NakReason)}
    (store : Store → Store) (hr : (s.opened src).recordRefusal (checks (s.opened src)) = none) :
    s.request src num .config (fun u => u.configure (checks u) store) State.offer =
      { s.acked src num .config none with store := store s.store } :=
  State.request_acked (act := fun u => u.configure (checks u) store) h num .config (State.configure_of_passed hr store) rfl

/-- A CONFIG record with one check of its fields. -/
theorem State.config_of_one_check (h : s.takesRequest src) (num : Nat) {good : Prop} [Decidable good] {bad : Bool}
    (hbad : bad = true ↔ ¬good) (store : Store → Store) :
    s.request src num .config (State.configure [(bad, .badField)] store) State.offer =
      if s.store.committed = true then s.refused src num .config .badState
      else if ¬good then s.refused src num .config .badField
      else { s.acked src num .config none with store := store s.store } := by
  have hreason : (s.opened src).recordRefusal [(bad, .badField)] =
      if s.store.committed = true then some .badState else if ¬good then some .badField else none :=
    if_congr Iff.rfl rfl (if_congr hbad rfl rfl)
  split
  · rename_i hc
    rw [if_pos hc] at hreason
    exact State.config_refused (checks := fun _ => [(bad, .badField)]) h num store hreason
  · rename_i hc
    rw [if_neg hc] at hreason
    split
    · rw [if_pos ‹_›] at hreason
      exact State.config_refused (checks := fun _ => [(bad, .badField)]) h num store hreason
    · rw [if_neg ‹_›] at hreason
      exact State.config_stored (checks := fun _ => [(bad, .badField)]) h num store hreason

end

/-! ## CONFIG GROUP -/

/-- A GROUP record's fields are in range (R124). -/
theorem groupFieldsOk_iff (g : Nat) (ms : List Nat) :
    (within 1 62 g && within 2 30 ms.length && ms.all (within 1 30) && decide ms.Nodup) = true ↔
      1 ≤ g ∧ g ≤ 62 ∧ 2 ≤ ms.length ∧ ms.length ≤ 30 ∧ (∀ a ∈ ms, 1 ≤ a ∧ a ≤ 30) ∧ ms.Nodup := by
  simp only [Bool.and_eq_true, within_eq_true_iff, List.all_eq_true, decide_eq_true_eq, and_assoc]

theorem anyNumber_iff (g : Nat) (rs : List GroupRecord) :
    (rs.any fun r => decide (r.number = g)) = true ↔ ∃ r ∈ rs, r.number = g := by
  simp

/-- A seventh number is a number that no record has, with six records stored (R123, R124). -/
theorem seventhNumber_iff (g : Nat) (rs : List GroupRecord) :
    (!(rs.any fun r => decide (r.number = g)) && !decide (rs.length < Config.groupRecords)) = true ↔
      (∀ r ∈ rs, r.number ≠ g) ∧ 6 ≤ rs.length := by
  have hfull : (!decide (rs.length < Config.groupRecords)) = true ↔ 6 ≤ rs.length := by
    rw [Bool.not_eq_true', decide_eq_false_iff_not, not_lt, Config.groupRecords]
  rw [Bool.and_eq_true, Bool.not_eq_true', ← Bool.not_eq_true, anyNumber_iff, hfull]
  simp only [not_exists, not_and, ne_eq]

theorem putGroup_eq (r : GroupRecord) (rs : List GroupRecord) [Decidable (∃ x ∈ rs, x.number = r.number)] :
    putGroup r rs =
      if ∃ x ∈ rs, x.number = r.number then rs.map fun x => if x.number = r.number then r else x else rs ++ [r] :=
  if_congr (anyNumber_iff r.number rs) rfl rfl

/-- Settles O24: the checks are a list read in order, and a record that passes is put in its place. -/
theorem configGroupStored : Obligations.ConfigGroupStored := by
  intro src num g ms s h reason
  have hreason : (s.opened src).recordRefusal ((s.opened src).groupChecks g ms) = reason := by
    refine if_congr Iff.rfl rfl (if_congr ?_ rfl (if_congr ?_ rfl (if_congr (seventhNumber_iff g s.store.groups) rfl rfl)))
    · rw [Bool.not_eq_true', ← Bool.not_eq_true, groupFieldsOk_iff]
    · rw [Bool.not_eq_true', decide_eq_false_iff_not]
      rfl
  refine congrArg Host.Outcome.next ?_
  generalize reason = r at hreason
  cases r with
  | some r => exact State.config_refused (checks := fun u => u.groupChecks g ms) h num _ hreason
  | none =>
    refine (State.config_stored (checks := fun u => u.groupChecks g ms) h num
      (fun c => { c with groups := putGroup { number := g, members := ms } c.groups }) hreason).trans ?_
    simp only [putGroup_eq]

/-! ## The profile slots -/

theorem Slots.get_set_same (x : Slots) {n : Nat} (h : n ≤ 3) (v : Slot) : (x.set n v).get n = v := by
  match n, h with
  | 0, _ | 1, _ | 2, _ | 3, _ => rfl

theorem Slots.get_set_of_ne (x : Slots) {n k : Nat} (h : k ≠ n) (v : Slot) : (x.set n v).get k = x.get k := by
  unfold Slots.set Slots.get
  grind

/-! ## CONFIG PROFILE, LINEAR or SCURVE -/

theorem rampFieldsOk_iff (slot rs rc a : Nat) :
    rampFieldsOk slot rs rc a = true ↔
      slot ≤ 3 ∧ 16 ≤ rs ∧ rs ≤ 200000 ∧ 16 ≤ rc ∧ rc ≤ 200000 ∧ rs ≤ rc ∧ 1 ≤ a ∧ a ≤ 65535 := by
  simp only [rampFieldsOk, rateOk, Bool.and_eq_true, within_eq_true_iff, decide_eq_true_eq, and_assoc, zero_le, true_and]

theorem rampKindOf_eq (kind : Nat) :
    rampKindOf kind = if kind = 0 then some .linear else if kind = 1 then some .scurve else none := by
  unfold rampKindOf
  split
  · rfl
  · rfl
  · rename_i h0 h1
    rw [if_neg h0, if_neg h1]

theorem rampKindOf_isSome_iff (kind : Nat) : (rampKindOf kind).isSome = true ↔ kind = 0 ∨ kind = 1 := by
  rw [rampKindOf_eq]
  split
  · simp [*]
  · split <;> simp [*]

theorem putRamp_eq {kind : Nat} (h : kind = 0 ∨ kind = 1) (slot rs rc a : Nat) (c : Store) :
    putRamp slot kind rs rc a c =
      { c with slots := c.slots.set slot (.ramp (if kind = 0 then .linear else .scurve) rs rc a) } := by
  rcases h with rfl | rfl <;> rfl

/-! ## CONFIG LIMITS, TIMING and INPUTS -/

theorem timingOk_iff (b l r : Nat) :
    timingOk b l r = true ↔ 5 ≤ b ∧ b ≤ 500 ∧ 10 ≤ l ∧ l ≤ 2000 ∧ (r = 0 ∨ (10 ≤ r ∧ r ≤ 60000)) := by
  simp only [timingOk, Bool.and_eq_true, Bool.or_eq_true, within_eq_true_iff, decide_eq_true_eq, and_assoc]

/-- A code names an active level when it is LOW (0) or HIGH (1) (R129, R163). -/
theorem levelOf_eq (k : Nat) : levelOf k = if k ≤ 1 then some (if k = 0 then .low else .high) else none := by
  match k with
  | 0 | 1 => rfl
  | k + 2 => exact (if_neg (by omega)).symm

theorem le_one_of_levelOf {k : Nat} {l : Level} (h : levelOf k = some l) : k ≤ 1 := by
  by_contra hk
  rw [levelOf_eq, if_neg hk] at h
  cases h

theorem inputsOf_eq (a b c d e : Nat) (h : Signed32) :
    inputsOf a b c d e h =
      if a ≤ 1 ∧ b ≤ 1 ∧ c ≤ 1 ∧ d ≤ 1 ∧ e ≤ 1 then
        some { limp := if a = 0 then .low else .high, limn := if b = 0 then .low else .high
               home := if c = 0 then .low else .high, dalm := if d = 0 then .low else .high
               stopin := if e = 0 then .low else .high, homeValue := h.toInt }
      else none := by
  split
  · rename_i hin
    obtain ⟨ha, hb, hc, hd, he⟩ := hin
    simp only [inputsOf, levelOf_eq, ha, hb, hc, hd, he, if_true]
  · rename_i hout
    unfold inputsOf
    split
    · rename_i ha hb hc hd he
      exact absurd ⟨le_one_of_levelOf ha, le_one_of_levelOf hb, le_one_of_levelOf hc, le_one_of_levelOf hd,
        le_one_of_levelOf he⟩ hout
    · rfl

/-- Settles O26: each record has one check of its fields, read as the ranges it stands for. -/
theorem otherRecordsStored : Obligations.OtherRecordsStored := by
  intro src num s h
  refine ⟨?_, ?_, ?_, ?_⟩
  · intro slot kind rs rc a good
    have hbad : (!((rampKindOf kind).isSome && rampFieldsOk slot rs rc a)) = true ↔ ¬((kind = 0 ∨ kind = 1) ∧ good) := by
      rw [Bool.not_eq_true', ← Bool.not_eq_true, Bool.and_eq_true, rampKindOf_isSome_iff, rampFieldsOk_iff]
    have hexec : exec (.configProfile src num slot kind rs rc a) s = .next _ :=
      congrArg Host.Outcome.next (State.config_of_one_check h num hbad (putRamp slot kind rs rc a))
    refine ⟨fun hc => ?_, fun hc hno => ?_, fun hc hk hg => ?_⟩
    · rw [if_pos hc] at hexec
      exact hexec
    · rw [if_neg (by simp [hc]), if_pos hno] at hexec
      exact hexec
    · rw [if_neg (by simp [hc]), if_neg (not_not.mpr ⟨hk, hg⟩), putRamp_eq hk] at hexec
      have hset := s.store.slots.get_set_same hg.1 (.ramp (if kind = 0 then .linear else .scurve) rs rc a)
      exact ⟨_, hexec, hset, congrArg Slot.isDefined hset, fun k hk => Slots.get_set_of_ne _ hk _⟩
  · intro lo hi
    have hbad : (!decide (lo.toInt < hi.toInt)) = true ↔ ¬lo.toInt < hi.toInt := by
      rw [Bool.not_eq_true', decide_eq_false_iff_not]
    exact congrArg Host.Outcome.next (State.config_of_one_check h num hbad _)
  · intro b l r
    have hbad : (!timingOk b l r) = true ↔ ¬(5 ≤ b ∧ b ≤ 500 ∧ 10 ≤ l ∧ l ≤ 2000 ∧ (r = 0 ∨ (10 ≤ r ∧ r ≤ 60000))) := by
      rw [Bool.not_eq_true', ← Bool.not_eq_true, timingOk_iff]
    exact congrArg Host.Outcome.next (State.config_of_one_check h num hbad _)
  · intro a b c d e home level
    have hbad : (inputsOf a b c d e home).isNone = true ↔ ¬(a ≤ 1 ∧ b ≤ 1 ∧ c ≤ 1 ∧ d ≤ 1 ∧ e ≤ 1) := by
      rw [inputsOf_eq]
      split <;> simp [*]
    refine congrArg Host.Outcome.next ((State.config_of_one_check h num hbad fun x =>
      { x with inputs := inputsOf a b c d e home }).trans (if_congr Iff.rfl rfl ?_))
    split
    · rfl
    · rename_i hin
      rw [inputsOf_eq, if_pos (not_not.mp hin)]

/-! ## CONFIG PROFILE, one part of a TABLE -/

theorem countOk_iff (n i c : Nat) : countOk n i c = true ↔ (i = n → c = 0) ∧ (i ≠ n → 1 ≤ c ∧ c ≤ 4095) := by
  unfold countOk
  split <;> simp [within_eq_true_iff, *]

theorem partEntriesOk_iff (n i : Nat) (es : List (Nat × Nat)) :
    partEntriesOk n i es = true ↔
      ∀ k e, es[k]? = some e → 16 ≤ e.1 ∧ e.1 ≤ 200000 ∧ (i + k = n → e.2 = 0) ∧ (i + k ≠ n → 1 ≤ e.2 ∧ e.2 ≤ 4095) := by
  induction es generalizing i with
  | nil => simp [partEntriesOk]
  | cons x es ih =>
    simp only [partEntriesOk, Bool.and_eq_true, rateOk, within_eq_true_iff, countOk_iff, ih]
    constructor
    · rintro ⟨⟨hr, hc⟩, hes⟩ (_ | k) e he
      · cases he
        exact ⟨hr.1, hr.2, hc⟩
      · simpa only [Nat.add_assoc, Nat.add_comm 1 k] using hes k e he
    · intro hall
      obtain ⟨hlo, hhi, hc⟩ := hall 0 x rfl
      exact ⟨⟨⟨hlo, hhi⟩, hc⟩, fun k e he => by simpa only [Nat.add_assoc, Nat.add_comm 1 k] using hall (k + 1) e he⟩

theorem partOk_iff (slot n start : Nat) (es : List (Nat × Nat)) :
    partOk slot n start es = true ↔
      slot ≤ 3 ∧ 2 ≤ n ∧ n ≤ 32 ∧ 1 ≤ start ∧ start ≤ n ∧ 1 ≤ es.length ∧ es.length ≤ 5 ∧
      start + es.length ≤ n + 1 ∧ ∀ k e, es[k]? = some e →
        16 ≤ e.1 ∧ e.1 ≤ 200000 ∧ (start + k = n → e.2 = 0) ∧ (start + k ≠ n → 1 ≤ e.2 ∧ e.2 ≤ 4095) := by
  simp only [partOk, Bool.and_eq_true, within_eq_true_iff, decide_eq_true_eq, partEntriesOk_iff, and_assoc, zero_le, true_and]

theorem length_writeAt (es : List (Option TableEntry)) (k : Nat) (ns : List TableEntry) :
    (writeAt es k ns).length = es.length := by
  fun_induction writeAt es k ns <;> simp_all

/-- What stands at a place after entries were written from place `k` on: the new entry there, or the old one (R126). -/
theorem getElem?_writeAt (es : List (Option TableEntry)) (k : Nat) (ns : List TableEntry) {j : Nat} (hj : j < es.length) :
    (writeAt es k ns)[j]? = if k ≤ j ∧ j < k + ns.length then some ns[j - k]? else es[j]? := by
  fun_induction writeAt es k ns generalizing j with
  | case1 k ns => simp at hj
  | case2 e es k ns ih =>
    cases j with
    | zero => simp
    | succ j =>
      rw [List.getElem?_cons_succ, ih (by simpa using hj), List.getElem?_cons_succ, Nat.add_sub_add_right]
      exact if_congr (by omega) rfl rfl
  | case3 es hes => simp
  | case4 e es n ns ih =>
    cases j with
    | zero => simp
    | succ j =>
      rw [List.getElem?_cons_succ, ih (by simpa using hj), List.getElem?_cons_succ]
      exact if_congr (by simp) (by simp) rfl

theorem length_tableBase (x : Slot) (n : Nat) : (tableBase x n).length = n := by
  unfold tableBase
  split
  · split
    · assumption
    · exact List.length_replicate
  · exact List.length_replicate

/-- The table that a part leaves, index by index: the part's own entries, and elsewhere those it is written over (R126). -/
theorem tableAfter_eq (x : Slot) (n : Nat) {start : Nat} (hs : 1 ≤ start) (es : List (Nat × Nat)) :
    tableAfter x n start es = (List.range n).map fun k =>
      if start ≤ k + 1 ∧ k + 1 < start + es.length then (es[k + 1 - start]?).map fun e => { rate := e.1, count := e.2 }
      else (tableBase x n).getD k none := by
  refine List.ext_getElem? fun j => ?_
  by_cases hj : j < n
  · rw [tableAfter, getElem?_writeAt _ _ _ (by rwa [length_tableBase]), List.getElem?_map, List.getElem?_map,
      List.getElem?_range hj, List.length_map, Option.map_some, apply_ite some]
    refine if_congr (by omega) ?_ ?_
    · rw [show j - (start - 1) = j + 1 - start by omega]
    · rw [List.getD_eq_getElem?_getD, List.getElem?_eq_getElem (by rwa [length_tableBase])]
      rfl
  · rw [List.getElem?_eq_none (by simpa [tableAfter, length_writeAt, length_tableBase] using hj),
      List.getElem?_eq_none (by simpa using hj)]

theorem rising_iff (l : List Nat) : rising l = true ↔ l.Pairwise (· < ·) := by
  rw [← List.isChain_iff_pairwise]
  fun_induction rising l with
  | case1 a b rest ih => simp [ih]
  | case2 l hl =>
    match l with
    | [] | [a] => simp
    | a :: b :: rest => exact absurd rfl (hl a b rest)

theorem tableOk_iff (es : List (Option TableEntry)) :
    tableOk es = true ↔
      ((es.filterMap id).map (·.rate)).Pairwise (· < ·) ∧ ((es.filterMap id).dropLast.map (·.count)).sum ≤ 65535 := by
  rw [tableOk, Bool.and_eq_true, rising_iff, decide_eq_true_eq, ← List.map_dropLast, presentEntries]

theorem Slot.isDefined_table_iff (es : List (Option TableEntry)) :
    (Slot.table es).isDefined = true ↔ ∀ e ∈ es, e ≠ none := by
  simp [Slot.isDefined, Option.isSome_iff_ne_none]

theorem Slot.isPartial_table_iff (es : List (Option TableEntry)) : (Slot.table es).isPartial = true ↔ none ∈ es := by
  simp [Slot.isPartial]

/-- The two stages of checks that a part meets (R126). -/
def State.partChecks (slot n start : Nat) (es : List (Nat × Nat)) (u : State) : List (Bool × NakReason) :=
  [(!partOk slot n start es, .badField), (!tableOk (tableAfter (u.store.slots.get slot) n start es), .badField)]

/-- The Configuration Store with a part written (R126). -/
def putPart (slot n start : Nat) (es : List (Nat × Nat)) (x : Store) : Store :=
  { x with slots := x.slots.set slot (.table (tableAfter (x.slots.get slot) n start es)) }

theorem exec_configProfileTablePart (src num slot n start : Nat) (es : List (Nat × Nat)) (s : State) :
    exec (.configProfileTablePart src num slot n start es) s =
      .next (s.request src num .config (fun u => u.configure (u.partChecks slot n start es) (putPart slot n start es))
        State.offer) := rfl

theorem firstFailing_pair {α : Type} (a b : Bool) (x : α) :
    firstFailing [(!a, x), (!b, x)] = if (a && b) = true then none else some x := by
  cases a <;> cases b <;> rfl

/-- Settles O25: the part's own fields are judged, and then the table that it would leave. -/
theorem tablePartStored : Obligations.TablePartStored := by
  intro src num slot n start es s h c fields old new present rises
  have hnew (hf : fields) : tableAfter (s.store.slots.get slot) n start es = new :=
    tableAfter_eq (s.store.slots.get slot) n hf.2.2.2.1 es
  have hok : (partOk slot n start es && tableOk (tableAfter (s.store.slots.get slot) n start es)) = true ↔
      fields ∧ rises := by
    rw [Bool.and_eq_true, partOk_iff]
    refine and_congr_right fun hf => ?_
    rw [hnew hf]
    exact tableOk_iff new
  have hreason (hc : s.store.committed = false) :
      (s.opened src).recordRefusal ((s.opened src).partChecks slot n start es) = _ :=
    (if_neg (by simp [hc])).trans (firstFailing_pair _ _ NakReason.badField)
  rw [exec_configProfileTablePart]
  refine ⟨fun hc => ?_, fun hc hno => ?_, fun hc hf hr => ?_⟩
  · exact congrArg _ (State.config_refused h num _ (if_pos hc))
  · exact congrArg _ (State.config_refused h num _ ((hreason hc).trans (if_neg (mt hok.mp hno))))
  · have hstored := State.config_stored h num (putPart slot n start es)
      ((hreason hc).trans (if_pos (hok.mpr ⟨hf, hr⟩)))
    have hset := s.store.slots.get_set_same hf.1 (.table new)
    refine ⟨s.store.slots.set slot (.table new), ?_, hset, ?_, ?_, fun k hk => Slots.get_set_of_ne _ hk _⟩
    · rw [hstored, putPart, hnew hf]
    · rw [hset, Slot.isDefined_table_iff]
    · rw [hset, Slot.isPartial_table_iff]

end Sys2Proof.Machine
end

section
/-! COMMIT: its checks, the causes it finds and what it builds; and RESTART (R24, R98, R101, R130, R131, R134). -/

-- One proof after another: elaborated side by side they need more threads than the check allows.
set_option deprecated.oldSectionVars true

namespace Sys2Proof.Machine

/-! ## The causes that COMMIT finds -/

/-- The node as COMMIT leaves it with the causes `cs`: HELD with them, and IDLE without any (R98, R101, R131). -/
def State.causedBy (cs : CauseSet) (s : State) : State :=
  s.updMc fun m => { m with state := if cs = 0 then .idle else .held, causes := cs }

theorem State.commitBuild_causedBy (s : State) : s.commitBuild.causedBy 0 = s.commitBuild := rfl

theorem State.hold_causedBy (s : State) (cs : CauseSet) (c : Cause) :
    (s.causedBy cs).hold c = s.causedBy (withCause cs c) := by
  simp only [State.causedBy, if_neg (withCause_ne_zero cs c)]
  rfl

theorem State.judgeInput_causedBy (s : State) (cs : CauseSet) (i : InputName) (c : Cause) :
    (s.causedBy cs).judgeInput i c =
      (s.updOut fun o => { o with dren := o.dren && !s.asserted i }).causedBy
        (if s.asserted i = true then withCause cs c else cs) := by
  have hin : (s.causedBy cs).asserted i = s.asserted i := rfl
  unfold State.judgeInput
  rw [hin]
  cases s.asserted i with
  | true =>
    simp only [Bool.not_true, Bool.and_false, if_true]
    exact State.hold_causedBy (s.updOut fun o => { o with dren := false }) cs c
  | false =>
    simp only [Bool.not_false, Bool.and_true, Bool.false_eq_true, if_false]
    rfl

/-- A BLOCKED link gives its cause to the IDLE or HELD node (R101). -/
theorem State.judgeBlocked_causedBy {s : State} (hd : s.mc.linkDue = false) (cs : CauseSet) :
    (s.causedBy cs).judgeBlocked =
      s.causedBy (if s.link.state = .blocked then withCause cs .link else cs) := by
  have hcause : (s.causedBy cs).linkCause = s.causedBy (withCause cs .link) := by
    by_cases hz : cs = 0
    · have hidle : (s.causedBy cs).mc.state = .idle := if_pos hz
      rw [← State.hold_causedBy, State.linkCause, hidle]
    · have hheld : (s.causedBy cs).mc.state = .held := if_neg hz
      rw [State.linkCause, hheld]
      simp only [State.causedBy, if_neg hz, if_neg (withCause_ne_zero cs .link)]
      rfl
  have hnone (t : State) (ht : t.mc.linkDue = false) : (t.updMc fun m => { m with linkDue := false }) = t := by
    rw [State.updMc, ← ht]
  unfold State.judgeBlocked
  refine (if_congr Iff.rfl ?_ rfl).trans (apply_ite (fun cs => s.causedBy cs) _ _ _).symm
  rw [State.takeLink, hcause]
  exact hnone _ hd

/-- The causes that hold the node at COMMIT: an asserted DALM, an asserted STOPIN, a BLOCKED link (R98, R101). -/
def State.commitCauses (s : State) : CauseSet :=
  let dalm := if s.commitBuild.asserted .dalm = true then withCause 0 .driveAlarm else 0
  let stopin := if s.commitBuild.asserted .stopin = true then withCause dalm .stopInput else dalm
  if s.link.state = .blocked then withCause stopin .link else stopin

/-- What an accepted COMMIT comes to: the tables built, and the node with the causes found (R131). -/
theorem State.commitEffect_eq {s : State} (hd : s.mc.linkDue = false) :
    s.commitEffect =
      (s.commitBuild.updOut fun o =>
        { o with dren := !s.commitBuild.asserted .dalm && !s.commitBuild.asserted .stopin }).causedBy s.commitCauses := by
  rw [State.commitEffect, ← State.commitBuild_causedBy, State.judgeInput_causedBy, State.judgeInput_causedBy,
    State.judgeBlocked_causedBy (by exact hd)]
  rfl

/-- An input is asserted by the levels that COMMIT puts into effect (R131, R132). -/
theorem State.commitBuild_asserted_iff (s : State) (i : InputName) :
    s.commitBuild.asserted i = true ↔
      (s.inp.get i).filtered = .ofLevel (s.store.inputs.elim .low (·.level i)) := by
  rw [State.asserted, decide_eq_true_eq, State.activeLevel]
  cases hr : s.store.inputs <;> simp [State.commitBuild, hr]

/-! ## COMMIT -/

theorem Slots.anyDefined_iff (x : Slots) :
    x.anyDefined = true ↔ (x.get 0).isDefined = true ∨ (x.get 1).isDefined = true ∨ (x.get 2).isDefined = true ∨
      (x.get 3).isDefined = true := by
  simp only [Slots.anyDefined, Slots.get, Bool.or_eq_true, or_assoc]

/-- The Peer Table that COMMIT builds, read address by address (R108, R131). -/
theorem peersOf_eq (self : Addr) (rs : List GroupRecord) :
    peersOf self rs =
      ((List.range 31).filter fun a => decide (a ≠ self ∧ ∃ r ∈ rs, a ∈ r.members)).map fun a =>
        { addr := a, presence := .unseen, lastState := none, timer := none } := by
  simp only [peersOf, ascendingAddrs, List.filter_filter, List.mem_flatMap, Bool.decide_and]

section

variable {s : State} {src : Addr}

theorem doCommit_of_refused (h : s.takesRequest src) (num : Nat) {r : NakReason}
    (hr : firstFailing (s.opened src).commitChecks = some r) : doCommit src num s = s.refused src num .commit r :=
  State.request_refused h num .commit _ (by simp only [hr])

theorem doCommit_of_passed (h : s.takesRequest src) (hd : s.mc.linkDue = false) (num : Nat)
    (hr : firstFailing (s.opened src).commitChecks = none) :
    doCommit src num s = (s.opened src).commitEffect.fill (.ack src num RequestKind.commit.code none) :=
  State.request_acked h num .commit (by simp only [hr]) (by rw [State.commitEffect_eq (s := s.opened src) hd]; rfl)

end

/-- Settles O27: the checks are a list read in order, and the effect is what is built, with the causes found. -/
theorem commitChecksAndBuilds : Obligations.CommitChecksAndBuilds := by
  intro src num s h hd timing defined fixed hot dalm stopin causes
  have hexec : exec (.commit src num) s = .next (doCommit src num s) := rfl
  have hreason : firstFailing (s.opened src).commitChecks =
      if s.mc.state ≠ .unconfigured then some .badState
      else if ¬(defined 0 ∨ defined 1 ∨ defined 2 ∨ defined 3) then some .noProfile
      else if timing.loss < 2 * timing.beacon then some .badTiming else none := by
    refine if_congr decide_eq_true_iff rfl (if_congr ?_ rfl (if_congr decide_eq_true_iff rfl rfl))
    rw [Bool.not_eq_true', ← Bool.not_eq_true, Slots.anyDefined_iff]
    rfl
  rw [hexec]
  refine ⟨fun hs => ?_, fun hs hno => ?_, fun hs hdef ht => ?_, fun hs hdef ht => ?_⟩
  · exact congrArg _ (doCommit_of_refused h num (hreason.trans (if_pos hs)))
  · exact congrArg _ (doCommit_of_refused h num (hreason.trans ((if_neg (not_not.mpr hs)).trans (if_pos hno))))
  · exact congrArg _ (doCommit_of_refused h num (hreason.trans ((if_neg (not_not.mpr hs)).trans
      ((if_neg (not_not.mpr hdef)).trans (if_pos ht)))))
  · have hpass := hreason.trans ((if_neg (not_not.mpr hs)).trans ((if_neg (not_not.mpr hdef)).trans (if_neg ht.not_gt)))
    have hhot (i : InputName) : (s.opened src).commitBuild.asserted i = true ↔ hot i := by
      rw [State.commitBuild_asserted_iff]
      simp only [hot]
      cases hr : s.store.inputs <;> simp [hr]
    have hcauses : (s.opened src).commitCauses = causes := by
      have hdalm := if_congr (hhot .dalm) (rfl : withCause 0 .driveAlarm = _) (rfl : (0 : CauseSet) = _)
      have hstopin := if_congr (hhot .stopin) (congrArg (withCause · .stopInput) hdalm) hdalm
      exact if_congr Iff.rfl (congrArg (withCause · .link) hstopin) hstopin
    have hdren : (!(s.opened src).commitBuild.asserted .dalm && !(s.opened src).commitBuild.asserted .stopin) =
        decide (¬hot .dalm ∧ ¬hot .stopin) := by
      rw [Bool.eq_iff_iff]
      simp only [Bool.and_eq_true, Bool.not_eq_true', ← Bool.not_eq_true, hhot, decide_eq_true_eq]
    rw [doCommit_of_passed h hd num hpass, State.commitEffect_eq (s := s.opened src) hd, hcauses, hdren,
      ← peersOf_eq s.self s.store.groups]
    rfl

/-! ## RESTART -/

/-- Settles O28: by the node state, and the restarted node is the power-on node with what RESTART leaves. -/
theorem restartReturnsToPowerOn : Obligations.RestartReturnsToPowerOn := by
  intro src num s h
  have hrefuses : ∀ st ∈ [NodeState.announcing, .armed, .running, .stopping], restartable st = false := by decide
  have haccepts : ∀ st ∈ [NodeState.unconfigured, .idle, .pending, .held], restartable st = true := by decide
  refine ⟨fun hs => ?_, fun hs => ⟨_, rfl, ?_⟩⟩
  · have hact : ¬restartable (s.opened src).mc.state = true := by simp [hrefuses _ hs]
    exact congrArg _ (State.request_refused h num .restart _ (if_neg hact))
  · refine congrArg _ (State.request_acked (u := (s.opened src).restarted) (d := none) h num .restart ?_ rfl)
    exact if_pos (haccepts _ hs)

end Sys2Proof.Machine
end

section
/-! The idle bus, and what it begins (R118 to R120, R136, R137, R146, R152). -/

-- One proof after another: elaborated side by side they need more threads than the check allows.
set_option deprecated.oldSectionVars true

namespace Sys2Proof.Machine

/-! ## The entry that is begun -/

theorem FrameQueue.hasQueued_iff {q : FrameQueue} {k : FrameClass} :
    q.hasQueued k = true ↔ ∃ e ∈ q.entries, e.status = .queued ∧ e.frame.cls = k := by
  simp [FrameQueue.hasQueued]

/-- The class of a queued entry than which no queued entry has a lower one (R152). -/
theorem FrameQueue.lowestClass_of_least {q : FrameQueue} {e : Entry} (he : e ∈ q.entries) (hs : e.status = .queued)
    (hle : ∀ x ∈ q.entries, x.status = .queued → classCode e.frame.cls ≤ classCode x.frame.cls) :
    q.lowestClass = some e.frame.cls := by
  have hyes : q.hasQueued e.frame.cls = true := FrameQueue.hasQueued_iff.mpr ⟨e, he, hs, rfl⟩
  have hno (k : FrameClass) (hk : classCode k < classCode e.frame.cls) : q.hasQueued k = false := by
    refine Bool.eq_false_iff.mpr fun hq => ?_
    obtain ⟨x, hx, hxs, rfl⟩ := FrameQueue.hasQueued_iff.mp hq
    exact absurd (hle x hx hxs) (Nat.not_le.mpr hk)
  unfold FrameQueue.lowestClass
  cases hc : e.frame.cls <;> simp only [hc, classCode] at hyes hno <;>
    simp [hyes, hno .urgent, hno .sync, hno .reply]

/-- The oldest queued entry of a class is the first one (R137, R152). -/
theorem beginOldest_append {k : FrameClass} {before after : List Entry} {e : Entry} (he : e.status = .queued)
    (hk : e.frame.cls = k) (hb : ∀ x ∈ before, x.status = .queued → x.frame.cls ≠ k) (st : NodeState) (depth : Nat) :
    beginOldest k st depth (before ++ e :: after) =
      before ++ { e with status := .inTransmission, frame := e.frame.refreshed st depth } :: after := by
  induction before with
  | nil => simp [beginOldest, he, hk]
  | cons x before ih =>
    have hx : ¬(x.status = .queued ∧ x.frame.cls = k) := fun h => hb x List.mem_cons_self h.1 h.2
    rw [List.cons_append, beginOldest, if_neg hx, ih fun y hy => hb y (List.mem_cons_of_mem _ hy), List.cons_append]

/-- On an idle bus of an ACTIVE link the first entry of the lowest class is begun (R137, R152). -/
theorem State.offer_of_least {s : State} {before after : List Entry} {e : Entry} (ha : s.link.state = .active)
    (hi : s.link.idleCount = 12) (hn : s.fq.sending = none) (hq : s.fq.entries = before ++ e :: after)
    (he : e.status = .queued)
    (hb : ∀ x ∈ before, x.status = .queued → classCode e.frame.cls < classCode x.frame.cls)
    (hf : ∀ x ∈ after, x.status = .queued → classCode e.frame.cls ≤ classCode x.frame.cls) :
    s.offer =
      { s with
        link := { s.link with idleCount := 0, inFrame := true, marks := SlotMarks.none }
        fq := { s.fq with entries := before ++
          { e with status := .inTransmission, frame := e.frame.refreshed s.mc.state s.mc.queue.length } :: after } } := by
  have hlow : s.fq.lowestClass = some e.frame.cls := by
    refine FrameQueue.lowestClass_of_least (hq ▸ by simp) he fun x hx hxs => ?_
    rw [hq, List.mem_append, List.mem_cons] at hx
    rcases hx with hx | rfl | hx
    · exact (hb x hx hxs).le
    · exact le_rfl
    · exact hf x hx hxs
  have hbegin := beginOldest_append (after := after) he rfl
    (fun x hx hxs hc => absurd (hc ▸ hb x hx hxs) (Nat.lt_irrefl _)) s.mc.state s.mc.queue.length
  rw [State.offer, if_pos ⟨ha, hi, hn⟩, hlow, ← hbegin, ← hq]
  rfl

/-! ## The idle bus -/

/-- The state once 12 recessive bit times have passed (R136). -/
def State.atIdle (s : State) : State := { s with link := { s.link with idleCount := 12 } }

/-- The bus becomes idle for a node that does not leave OFFLINE (R136). -/
theorem State.idle_of_staying {s : State} (hr : s.link.inReset = false) (hf : s.link.inFrame = false)
    (h : ¬(s.link.state = .offline ∧ s.link.addrValid = true)) : s.idle = s.atIdle.offer := by
  have hleave : (s.updLink fun l => { l with idleCount := Config.idleBits }).leaveOffline = s.atIdle := if_neg h
  rw [State.idle, if_neg (by simp [hr, hf]), hleave]

/-- A node with an address leaves OFFLINE when the bus becomes idle (R119, R146). -/
theorem State.idle_of_leaving {s : State} (hr : s.link.inReset = false) (hf : s.link.inFrame = false)
    (h : s.link.state = .offline ∧ s.link.addrValid = true) :
    s.idle =
      ({ s with
        link := { s.link with state := .active, idleCount := 12 }
        peer := { s.peer with beaconTimer := some s.timing.beacon } } : State).offer := by
  have hleave : (s.updLink fun l => { l with idleCount := Config.idleBits }).leaveOffline =
      { s with
        link := { s.link with state := .active, idleCount := 12 }
        peer := { s.peer with beaconTimer := some s.timing.beacon } } := if_pos h
  rw [State.idle, if_neg (by simp [hr, hf]), hleave]

/-- Nothing is offered on a link that is not ACTIVE (R144, R146, R147). -/
theorem State.offer_of_not_active {s : State} (h : s.link.state ≠ .active) : s.offer = s := if_neg fun hc => h hc.1

theorem OutFrame.refreshed_eq (st : NodeState) (depth : Nat) (f : OutFrame) :
    f.refreshed st depth = match f with
      | .beacon _ _ => OutFrame.beacon st depth
      | f => f := by
  cases f <;> rfl

/-- Settles O15: by the link state and what is queued. -/
theorem busIdleBeginsTheOldestOfTheLowestClass : Obligations.BusIdleBeginsTheOldestOfTheLowestClass := by
  refine ⟨fun s h => congrArg _ (if_pos h.symm), fun s hreset hframe hsend => ⟨?_, ?_, ?_, ?_, ?_⟩⟩
  · intro ha hq
    refine congrArg _ ((State.idle_of_staying hreset hframe ?_).trans (State.offer_of_none_queued (s := s.atIdle) hq))
    simp [ha]
  · intro hl
    refine congrArg _ ((State.idle_of_staying hreset hframe ?_).trans (State.offer_of_not_active (s := s.atIdle) ?_))
    · rcases hl with hl | hl <;> simp [hl]
    · rcases hl with hl | hl <;> simp [State.atIdle, hl]
  · intro before after e ha hq he hb hf frame
    have hbegun : frame = e.frame.refreshed s.mc.state s.mc.queue.length := (OutFrame.refreshed_eq ..).symm
    rw [hbegun]
    refine congrArg _ ((State.idle_of_staying hreset hframe ?_).trans
      (State.offer_of_least (s := s.atIdle) ha rfl hsend hq he hb hf))
    simp [ha]
  · intro ho h1 h30 hq
    have hvalid : s.link.addrValid = true := by simp [Link.addrValid, within, h1, h30]
    refine congrArg _ ((State.idle_of_leaving hreset hframe ⟨ho, hvalid⟩).trans (State.offer_of_none_queued ?_))
    simp [hq]
  · intro ho haddr
    have hvalid : s.link.addrValid = false := by rcases haddr with h | h <;> simp [Link.addrValid, within, h]
    refine congrArg _ ((State.idle_of_staying hreset hframe ?_).trans (State.offer_of_not_active (s := s.atIdle) ?_))
    · simp [hvalid]
    · simp [State.atIdle, ho]

end Sys2Proof.Machine
end

section
/-! SUPPORT. The one entry in transmission, the release of a reservation, and what of an event's end they leave alone (R18,
R19, R137, R138, R143 to R145, R153, R156). -/

-- One proof after another: elaborated side by side they need more threads than the check allows.
set_option deprecated.oldSectionVars true

namespace Sys2Proof.Machine

/-! ## The entry in transmission -/

/-- The queue sends the entry `e`, which stands between `before` and `after`, and every other entry is queued (R137). -/
structure FrameQueue.Sends (q : FrameQueue) (before : List Entry) (e : Entry) (after : List Entry) : Prop where
  entries : q.entries = before ++ e :: after
  sent    : e.status = .inTransmission
  others  : ∀ x ∈ before ++ after, x.status = .queued

namespace FrameQueue

variable {q r : FrameQueue} {before after : List Entry} {e : Entry}

theorem Sends.congr (h : q.Sends before e after) (hr : r.entries = q.entries) : r.Sends before e after :=
  ⟨hr.trans h.entries, h.sent, h.others⟩

/-- What keeps the status of a queued entry and changes the one in transmission changes that one only. -/
theorem Sends.map (h : q.Sends before e after) {f : Entry → Entry} (hf : ∀ x : Entry, x.status = .queued → f x = x) :
    q.entries.map f = before ++ f e :: after := by
  have hid {xs : List Entry} (hx : ∀ x ∈ xs, x.status = .queued) : xs.map f = xs :=
    (List.map_congr_left fun x hm => hf x (hx x hm)).trans (List.map_id _)
  obtain ⟨hb, ha⟩ := List.forall_mem_append.mp h.others
  rw [h.entries, List.map_append, List.map_cons, hid hb, hid ha]

theorem Sends.sending (h : q.Sends before e after) : q.sending = some e := by
  refine List.find?_eq_some_iff_append.mpr ⟨by simpa using h.sent, before, after, h.entries, fun x hx => ?_⟩
  simp [h.others x (List.mem_append_left _ hx)]

/-- The attempt ends and its entry is queued in its place (R153). -/
theorem Sends.requeue (h : q.Sends before e after) :
    q.requeue = { q with entries := before ++ { e with status := .queued } :: after } :=
  congrArg (FrameQueue.mk · q.reserved) (h.map fun x hx => by rw [← hx])

/-- The attempt ends busy: the busy count of its entry rises too (R145). -/
theorem Sends.countBusy_requeue (h : q.Sends before e after) :
    q.countBusy.requeue = { q with entries := before ++ { e with status := .queued, busy := e.busy + 1 } :: after } := by
  refine congrArg (FrameQueue.mk · q.reserved) (List.map_map.trans ((h.map fun x hx => ?_).trans ?_))
  · rw [Function.comp_apply, if_neg (by simp [hx]), ← hx]
  · rw [Function.comp_apply, if_pos h.sent]

/-- The entry in transmission leaves (R153). -/
theorem Sends.endSending (h : q.Sends before e after) : q.endSending = { q with entries := before ++ after } := by
  have hid {xs : List Entry} (hx : ∀ x ∈ xs, x.status = .queued) :
      (xs.filter fun x => decide (x.status ≠ .inTransmission)) = xs :=
    List.filter_eq_self.mpr fun x hm => by simp [hx x hm]
  obtain ⟨hb, ha⟩ := List.forall_mem_append.mp h.others
  refine congrArg (FrameQueue.mk · q.reserved) ?_
  rw [h.entries, List.filter_append, List.filter_cons, if_neg (by simp [h.sent]), hid hb, hid ha]

/-- The class of the entry that leaves holds one entry fewer (R150, R153). -/
theorem Sends.count_endSending (h : q.Sends before e after) (k : FrameClass) :
    q.endSending.count k + (if e.frame.cls = k then 1 else 0) = q.count k := by
  simp only [h.endSending, FrameQueue.count, h.entries, List.countP_append, List.countP_cons, decide_eq_true_eq]
  omega

/-- The end of an attempt with nothing in transmission changes nothing (R137). -/
theorem requeue_of_not_sending (h : q.sending = none) : q.requeue = q := by
  refine congrArg (FrameQueue.mk · q.reserved) ((List.map_congr_left fun x hx => ?_).trans (List.map_id _))
  rw [← FrameQueue.queued_of_not_sending h hx]
  rfl

end FrameQueue

/-! ## A freed entry and a released one -/

/-- The REPORT of a record that waited is queued to its origin (R18). -/
def State.recordSent (s : State) (w : WaitingRecord) : State :=
  (s.push (.report w.origin w.record)).updMc fun m => { m with record := none }

theorem State.entryFreed_of_no_record {s : State} (h : s.mc.record = none) : s.entryFreed = s := by
  rw [State.entryFreed, h]

theorem State.entryFreed_of_record {s : State} {w : WaitingRecord} (h : s.mc.record = some w)
    (hd : s.mc.deferredExpiry = false) : s.entryFreed = s.recordSent w := by
  rw [State.entryFreed, h]
  exact if_neg (by simp [hd])

/-- A retirement that was deferred for the record is made once its REPORT is queued (R19). -/
theorem State.entryFreed_of_deferred {s : State} {w : WaitingRecord} (h : s.mc.record = some w)
    (hd : s.mc.deferredExpiry = true) : s.entryFreed = (s.recordSent w).retire .failed (some .gateTimeout) := by
  rw [State.entryFreed, h]
  exact if_pos hd

/-- A freed REPLY entry is room for the REPORT of a record that waits (R18). -/
theorem State.replyFreed_eq_entryFreed {s : State} (h : 0 < s.fq.free) : s.replyFreed = s.entryFreed := by
  cases hw : s.mc.record with
  | none => rw [State.replyFreed, State.entryFreed, hw]
  | some w =>
    rw [State.entryFreed, State.replyFreed, hw]
    exact if_pos h

/-- The release of a reserved entry is room for the REPORT of a record that waits (R18, R156). -/
theorem State.unreserved_eq_slotOver {s : State} (hr : s.fq.reserved = true) (hc : s.fq.count .reply < 4) :
    s.unreserved = s.slotOver := by
  rw [State.unreserved, if_pos hr]
  refine State.replyFreed_eq_entryFreed ?_
  simp only [State.reserve_fq, FrameQueue.free, FrameQueue.count_reserved, share]
  simpa using hc

theorem State.released_eq_slotOver {s : State} (hr : s.fq.reserved = true) (hc : s.fq.count .reply < 4) :
    s.released = s.slotOver.finish := by
  rw [State.released, if_pos hr, State.unreserved_eq_slotOver hr hc]

theorem State.slotOver_of_no_record {s : State} (h : s.mc.record = none) :
    s.slotOver = { s with fq := { s.fq with reserved := false } } := State.entryFreed_of_no_record h

/-- The entry freed goes to the REPORT of a record that waits, which may bring a retirement that was deferred (R18, R19). -/
theorem State.entryFreed_keepsReadies (s : State) : s.fq.KeepsReadies s.entryFreed.fq := by
  cases hw : s.mc.record with
  | none =>
    rw [State.entryFreed_of_no_record hw]
    exact .refl _
  | some w =>
    have hsent : s.fq.KeepsReadies (s.recordSent w).fq := s.fq.keepsReadies_push _ rfl
    cases hd : s.mc.deferredExpiry with
    | false => exact State.entryFreed_of_record hw hd ▸ hsent
    | true => exact State.entryFreed_of_deferred hw hd ▸ hsent.trans ((s.recordSent w).retire_keepsReadies _ _)

theorem State.slotOver_reserved (s : State) : s.slotOver.fq.reserved = false :=
  (State.entryFreed_keepsReadies { s with fq := { s.fq with reserved := false } }).reserved

theorem State.slotOver_flight (s : State) : s.slotOver.fq.inFlight = s.fq.inFlight :=
  (State.entryFreed_keepsReadies { s with fq := { s.fq with reserved := false } }).flight

theorem State.slotOver_sending (s : State) : s.slotOver.fq.sending = s.fq.sending :=
  FrameQueue.sending_congr s.slotOver_flight

/-! ## What an end of an attempt and a released entry leave of each other -/

/-- A change of the Frame Queue that frames queued meanwhile do not see: it comes to the same before them and after them, and
it changes neither what the shares hold nor the reservation. -/
structure FrameQueue.Unseen (f : FrameQueue → FrameQueue) : Prop where
  push     : ∀ q x, f (q.push x) = (f q).push x
  count    : ∀ q k, (f q).count k = q.count k
  reserved : ∀ q, (f q).reserved = q.reserved
  release  : ∀ q, f { q with reserved := false } = { f q with reserved := false }

theorem FrameQueue.unseen_id : FrameQueue.Unseen id := ⟨fun _ _ => rfl, fun _ _ => rfl, fun _ => rfl, fun _ => rfl⟩

theorem FrameQueue.unseen_requeue : FrameQueue.Unseen FrameQueue.requeue :=
  ⟨fun q x => by simp [FrameQueue.push, FrameQueue.requeue], FrameQueue.count_requeue, FrameQueue.reserved_requeue,
    fun _ => rfl⟩

namespace State

/-- The state with such a change of its Frame Queue, and a change of its link. -/
def aside (f : FrameQueue → FrameQueue) (l : Link → Link) (s : State) : State := { s with fq := f s.fq, link := l s.link }

variable {f : FrameQueue → FrameQueue} {l : Link → Link}

theorem aside_push (h : FrameQueue.Unseen f) (x : OutFrame) (s : State) : (s.aside f l).push x = (s.push x).aside f l := by
  simp only [State.push, State.updFq, aside, h.push]

theorem aside_free (h : FrameQueue.Unseen f) (s : State) : (s.aside f l).fq.free = s.fq.free :=
  FrameQueue.free_congr (h.count _ _) (h.reserved _)

theorem aside_report (h : FrameQueue.Unseen f) (w : WaitingRecord) (s : State) :
    (s.aside f l).report w = (s.report w).aside f l := by
  unfold report
  rw [aside_free h, aside_push h, apply_ite (aside f l)]
  rfl

theorem aside_queueSync (h : FrameQueue.Unseen f) (x : OutFrame) (s : State) :
    (s.aside f l).queueSync x = (s.queueSync x).aside f l := by
  unfold queueSync
  rw [aside_push h, apply_ite (aside f l), show (s.aside f l).fq.count .sync = s.fq.count .sync from h.count _ _]
  rfl

theorem aside_withdraw (h : FrameQueue.Unseen f) (m : Move) (o : RetireOutcome) (c : Option Cause) (s : State) :
    (s.aside f l).withdraw m o c = (s.withdraw m o c).aside f l := by
  unfold withdraw
  split
  · rw [aside_queueSync h, apply_ite (aside f l)]
  · rfl

theorem aside_voidAll (h : FrameQueue.Unseen f) (t : Tag) (ms : List Marker) (s : State) :
    (s.aside f l).voidAll t ms = (s.voidAll t ms).aside f l := by
  induction ms generalizing s with
  | nil => rfl
  | cons m ms ih => rw [voidAll, aside_queueSync h, ih, voidAll]

/-- A retirement queues its frames beside the change (R17 to R21). -/
theorem aside_retire (h : FrameQueue.Unseen f) (o : RetireOutcome) (c : Option Cause) (s : State) :
    (s.aside f l).retire o c = (s.retire o c).aside f l := by
  unfold retire
  rw [show (s.aside f l).mc.queue = s.mc.queue from rfl]
  cases s.mc.queue with
  | nil => rfl
  | cons m rest =>
    dsimp only
    rw [show (s.aside f l).recordOf m o c = s.recordOf m o c from rfl, aside_report h, aside_withdraw h,
      show (s.aside f l).unreachedOf m = s.unreachedOf m from rfl, aside_voidAll h]
    rfl

theorem aside_entryFreed (h : FrameQueue.Unseen f) (s : State) :
    (s.aside f l).entryFreed = s.entryFreed.aside f l := by
  have hsent (w : WaitingRecord) : (s.aside f l).recordSent w = (s.recordSent w).aside f l := by
    rw [recordSent, aside_push h]
    rfl
  cases hw : s.mc.record with
  | none => rw [entryFreed_of_no_record hw, entryFreed_of_no_record (s := s.aside f l) hw]
  | some w =>
    cases hd : s.mc.deferredExpiry with
    | false => rw [entryFreed_of_record hw hd, entryFreed_of_record (s := s.aside f l) hw hd, hsent]
    | true => rw [entryFreed_of_deferred hw hd, entryFreed_of_deferred (s := s.aside f l) hw hd, hsent, aside_retire h]

/-- A release comes to the same before the change and after it (R156). -/
theorem aside_slotOver (h : FrameQueue.Unseen f) (s : State) : (s.aside f l).slotOver = s.slotOver.aside f l := by
  rw [slotOver, slotOver, ← aside_entryFreed h]
  exact congrArg entryFreed (congrArg (fun q => { s with fq := q, link := l s.link }) (h.release _).symm)

end State

end Sys2Proof.Machine
end

section
/-! The ends of an attempt that was rejected or ended busy: what returns to queued, what is dropped, and what is discarded
(R42 to R44, R94, R96, R101, R138 to R145, R153, R156). -/

-- One proof after another: elaborated side by side they need more threads than the check allows.
set_option deprecated.oldSectionVars true

namespace Sys2Proof.Machine

/-- Nothing follows the end of a frame that gains no REPLY room and changes neither the Move Controller nor the URGENT
share. -/
theorem State.finish_of_quiet {s t : State} (h : s.settled) (hi : t.link.idleCount = 0) (hmc : t.mc = s.mc)
    (hg : t.gate.marks = s.gate.marks) (hf : t.fq.free ≤ s.fq.free) (hu : t.fq.count .urgent = s.fq.count .urgent) :
    t.finish = t :=
  State.finish_of_settled_of_not_idle (h.of_frame hmc hg hf hu) (by simp [hi])

/-! ## The slot of an attempt -/

theorem RejectedBy.marks_eq (how : Sys2Proof.RejectedBy) :
    RejectedBy.marks how =
      { checkReject := decide (how = .ownCheck ∨ how = .dropOut true), addresseeBusy := false } := by
  cases how with
  | ownCheck => rfl
  | otherParty => rfl
  | dropOut b => cases b <;> rfl

section

variable {s : State} {e : Entry}

/-- A rejected attempt: its slot ends, a reservation still standing is released, the attempt ends, and so does the event
(R143, R144, R156). -/
theorem State.ownRejected_of_sending (h : s.fq.sending = some e) (m : SlotMarks) :
    s.ownRejected m = ((s.afterSlot m).unreserved.attemptRejected).finish := by
  rw [State.ownRejected, if_neg (by simp [h]), State.slotRejects, if_pos rfl]

theorem State.ownBusy_of_sending (h : s.fq.sending = some e) :
    s.ownBusy = ((s.afterSlot SlotMarks.none).unreserved.attemptBusy).finish := by
  rw [State.ownBusy, if_neg (by simp [h])]

theorem State.slotOver_link (s : State) : s.slotOver.link = s.link := by
  unfold State.slotOver State.entryFreed
  dsimp only
  split
  · rfl
  · split
    · simp
    · rfl

/-- A reservation is released after the slot has ended as it is before (R156). -/
theorem State.afterSlot_unreserved (hr : s.fq.reserved = true) (hc : s.fq.count .reply < 4) (m : SlotMarks) :
    (s.afterSlot m).unreserved = s.slotOver.afterSlot m :=
  (State.unreserved_eq_slotOver (s := s.afterSlot m) hr hc).trans
    (State.aside_slotOver (l := fun l => { l with idleCount := 0, inFrame := false, marks := m }) FrameQueue.unseen_id s)

theorem State.afterSlot_unreserved_slotOver (hr : s.fq.reserved = true) (hc : s.fq.count .reply < 4) (m : SlotMarks) :
    (s.afterSlot m).unreserved = (s.slotOver.afterSlot m).unreserved := by
  rw [State.afterSlot_unreserved hr hc, State.unreserved_of_none (by exact s.slotOver_reserved)]

/-- An attempt that is rejected releases a reservation still standing before anything else (R156). -/
theorem State.ownRejected_slotOver (h : s.fq.sending = some e) (hr : s.fq.reserved = true) (hc : s.fq.count .reply < 4)
    (m : SlotMarks) : s.ownRejected m = s.slotOver.ownRejected m := by
  rw [State.ownRejected_of_sending h, State.ownRejected_of_sending (s.slotOver_sending.trans h),
    State.afterSlot_unreserved_slotOver hr hc]

/-- An attempt that ends busy releases a reservation still standing before anything else (R156). -/
theorem State.ownBusy_slotOver (h : s.fq.sending = some e) (hr : s.fq.reserved = true) (hc : s.fq.count .reply < 4) :
    s.ownBusy = s.slotOver.ownBusy := by
  rw [State.ownBusy_of_sending h, State.ownBusy_of_sending (s.slotOver_sending.trans h),
    State.afterSlot_unreserved_slotOver hr hc]

/-- A frame of another class than REPLY that ends busy counts as rejected (R145). -/
theorem State.ownBusy_of_not_reply (h : s.fq.sending = some e) (hc : e.frame.cls ≠ .reply) :
    s.ownBusy = s.ownRejected SlotMarks.none := by
  have hsend : (s.afterSlot SlotMarks.none).unreserved.fq.sending = some e :=
    (FrameQueue.sending_congr (State.unreserved_flight _)).trans h
  rw [State.ownBusy_of_sending h, State.ownRejected_of_sending h, State.attemptBusy, hsend]
  exact congrArg State.finish (if_neg hc)

end

/-! ## A REPLY frame that ends busy -/

section

variable {s : State} {before after : List Entry} {e : Entry}

/-- A REPLY frame that ends busy for less than the sixteenth time is queued again (R145). -/
theorem State.ownBusy_of_returned (h : s.fq.Sends before e after) (hset : s.settled) (hc : e.frame.cls = .reply)
    (hb : e.busy + 1 < 16) (hr : s.fq.reserved = false) :
    s.ownBusy =
      { s with
        link := { s.link with rejects := 0, idleCount := 0, inFrame := false, marks := SlotMarks.none }
        fq := { s.fq with entries := before ++ { e with status := .queued, busy := e.busy + 1 } :: after } } := by
  have hattempt : (s.afterSlot SlotMarks.none).attemptBusy =
      ((s.afterSlot SlotMarks.none).updLink fun l => { l with rejects := 0 }).updFq fun q => q.countBusy.requeue := by
    rw [State.attemptBusy, (State.afterSlot_frame _ s).1, h.sending]
    simp only [hc, if_true]
    exact if_pos hb
  rw [State.ownBusy_of_sending h.sending, State.unreserved_of_none (s := s.afterSlot _) hr, hattempt,
    ← h.countBusy_requeue]
  exact State.finish_of_quiet hset rfl rfl rfl (by simp) (by simp)

/-- The state after a REPLY frame was dropped, before its freed entry is taken (R145). -/
def State.withoutSent (s : State) (before after : List Entry) : State :=
  { s with
    link := { s.link with rejects := 0, idleCount := 0, inFrame := false, marks := SlotMarks.none }
    fq := { s.fq with entries := before ++ after } }

/-- A REPLY frame that ends busy for the sixteenth time is dropped, and its entry freed (R145). -/
theorem State.ownBusy_of_dropped (h : s.fq.Sends before e after) (hc : e.frame.cls = .reply) (hb : e.busy = 15)
    (hr : s.fq.reserved = false) : s.ownBusy = (s.withoutSent before after).replyFreed.finish := by
  have hattempt : (s.afterSlot SlotMarks.none).attemptBusy =
      (((s.afterSlot SlotMarks.none).updLink fun l => { l with rejects := 0 }).updFq FrameQueue.endSending).replyFreed := by
    rw [State.attemptBusy, (State.afterSlot_frame _ s).1, h.sending]
    simp only [hc, if_true]
    exact if_neg (by simp [hb, Config.busyLimit])
  rw [State.ownBusy_of_sending h.sending, State.unreserved_of_none (s := s.afterSlot _) hr, hattempt]
  unfold State.withoutSent
  rw [← h.endSending]
  rfl


theorem State.withoutSent_count (h : s.fq.Sends before e after) (k : FrameClass) :
    (s.withoutSent before after).fq.count k + (if e.frame.cls = k then 1 else 0) = s.fq.count k := by
  have := h.count_endSending k
  rwa [h.endSending] at this

/-- The REPLY entry that a dropped frame leaves is free (R156). -/
theorem State.withoutSent_free (h : s.fq.Sends before e after) (hc : e.frame.cls = .reply) (hle : s.fq.count .reply ≤ 4)
    (hr : s.fq.reserved = false) : (s.withoutSent before after).fq.free = 5 - s.fq.count .reply := by
  have hcount := State.withoutSent_count h .reply
  have hreserved : (s.withoutSent before after).fq.reserved = false := hr
  simp only [hc, if_true] at hcount
  simp only [FrameQueue.free, share, hreserved, Bool.false_eq_true, if_false]
  omega

/-- A node that is not PENDING has nothing to do once a REPLY frame was dropped (R12, R145). -/
theorem State.withoutSent_settled (h : s.fq.Sends before e after) (hset : s.settled) (hc : e.frame.cls = .reply)
    (hp : s.mc.state ≠ .pending) : (s.withoutSent before after).settled := by
  refine hset.of_not_pending hset.1 hp rfl ?_
  simpa [hc] using State.withoutSent_count h .urgent

theorem State.replyFreed_of_no_record {s : State} (h : s.mc.record = none) : s.replyFreed = s := by
  rw [State.replyFreed, h]

theorem State.recordSent_settled {s : State} (h : s.settled) (hp : s.mc.state ≠ .pending) (w : WaitingRecord) :
    (s.recordSent w).settled :=
  h.of_not_pending h.1 hp rfl (by simp [State.recordSent, OutFrame.cls])

/-- A REPORT takes one REPLY entry (R18, R150). -/
theorem State.recordSent_free (s : State) (w : WaitingRecord) : (s.recordSent w).fq.free = s.fq.free - 1 := by
  simp only [State.recordSent, State.updMc_fq, State.push_fq, FrameQueue.free, FrameQueue.count_push,
    FrameQueue.reserved_push, OutFrame.cls, if_true]
  rw [Nat.sub_add_eq, Nat.sub_right_comm]
  rfl

theorem State.retire_deferredExpiry {s : State} {m : Move} {rest : List Move} (hq : s.mc.queue = m :: rest)
    (o : RetireOutcome) (c : Option Cause) : (s.retire o c).mc.deferredExpiry = false := by
  unfold State.retire
  rw [hq]
  rfl

/-- What the end of an event keeps of the Move Controller of a HELD node (R12, R94, R101). -/
theorem State.finish_mc_of_held {s : State} (h : s.mc.state = .held) :
    s.finish.mc.kept = s.mc.kept ∧ s.finish.mc.deferredExpiry = s.mc.deferredExpiry := by
  rw [State.finish_of_held h]
  rcases State.giveLink_of_held h with he | he <;> simp [he]

/-- The end of an event on a bus that is not idle begins no frame (R137). -/
theorem State.finish_link_of_not_idle {s : State} (h : s.link.idleCount ≠ 12) : s.finish.link = s.link := by
  rw [State.finish, State.offer_of_not_idle (by simpa using h)]
  simp

end

/-- A retirement that was deferred for a record that waited: the head of a node at rest is retired FAILED GATE_TIMEOUT once
the record's REPORT is queued, and its own record takes a REPLY entry still free or waits in its turn (R18 to R20, R57). -/
theorem State.deferred_retired {u : State} {w : WaitingRecord} {m : Move} {rest : List Move} {own : Record}
    (hq : u.mc.queue = m :: rest) (hi : u.link.idleCount ≠ 12)
    (hown : u.recordOf m .failed (some .gateTimeout) = own) :
    let v := ((u.recordSent w).retire .failed (some .gateTimeout)).finish
    v.mc.state = .held ∧ holdsCause v.mc.causes .gateTimeout = true ∧ v.mc.queue = rest ∧ v.mc.deferredExpiry = false ∧
    v.holdsFrame (.report w.origin w.record) ∧
    (1 < u.fq.free → v.mc.record = none ∧ v.holdsFrame (.report m.origin own)) ∧
    (u.fq.free = 1 → v.mc.record = some { origin := m.origin, record := own }) ∧
    v.link = u.link ∧ v.store = u.store ∧ v.peer = u.peer ∧ v.lead = u.lead ∧ v.out = u.out ∧ v.inp = u.inp := by
  intro v
  have hheld := (u.recordSent w).retire_held hq .failed .gateTimeout
  have hfree := u.recordSent_free w
  obtain ⟨hstate, hcause, hqueue, -, hlead, hout, hrecord⟩ :=
    State.retire_finish (s := u.recordSent w) hq .failed .gateTimeout
  rw [State.retire_record (s := u.recordSent w) hq] at hrecord
  have hholds {f : OutFrame} (hf : f.cls = .reply) :=
    State.retire_finish_holds (s := u.recordSent w) (f := f) hq .failed .gateTimeout (by simp [hf])
  have hlink : v.link = u.link :=
    (State.finish_link_of_not_idle (by simpa [State.recordSent] using hi)).trans (by simp [State.recordSent])
  refine ⟨hstate, hcause, hqueue, ?_, ?_, fun hlt => ?_, fun heq => ?_, hlink, ?_⟩
  · exact (State.finish_mc_of_held hheld).2.trans (State.retire_deferredExpiry (s := u.recordSent w) hq _ _)
  · exact hholds rfl ⟨_, ((u.recordSent w).retire_joined .failed (some .gateTimeout)).mem
      (List.mem_append_right _ (List.mem_singleton_self _)), rfl⟩
  · rw [if_pos (by omega)] at hrecord
    exact ⟨hrecord, hholds rfl (hown ▸ State.retire_holds_report (s := u.recordSent w) hq (by omega) .failed _)⟩
  · rw [if_neg (by omega)] at hrecord
    exact hown ▸ hrecord
  · refine ⟨?_, ?_, hlead, hout, ?_⟩ <;> simp [v, State.recordSent]

/-- Settles O18: below the sixteenth busy attempt the entry is queued again, and at it the entry is freed. -/
theorem busyAttemptsDropTheFrame : Obligations.BusyAttemptsDropTheFrame := by
  intro s before after e hset hq hst ho link
  have h : s.fq.Sends before e after := ⟨hq, hst, ho⟩
  let gone := s.withoutSent before after
  refine ⟨fun hr hc => ?_, fun hc hb hr => congrArg _ (State.ownBusy_of_returned h hset hc hb hr), ?_, ?_, ?_, fun hc => ?_⟩
  · have hbusy := congrArg (Host.Outcome.next (φ := Fault) (ρ := Refusal)) (State.ownBusy_slotOver h.sending hr hc)
    simp only [List.forall_mem_cons]
    exact ⟨hbusy, hbusy, nofun⟩
  · intro hc hb hw hr dropped
    have hexec : exec .dropped s = .next dropped.finish := by
      refine congrArg _ ((State.ownBusy_of_dropped h hc hb hr).trans ?_)
      rw [State.replyFreed_of_no_record (s := gone) hw]
      rfl
    exact ⟨hexec, fun hp => hexec.trans (congrArg _ (State.finish_of_settled_of_not_idle
      (State.withoutSent_settled h hset hc hp) (by decide : (0 : Nat) ≠ 12)))⟩
  · intro w hc hb hw hd hle hr dropped
    have hfree : gone.fq.free = 5 - s.fq.count .reply := State.withoutSent_free h hc hle hr
    have hexec : exec .dropped s = .next dropped.finish := by
      refine congrArg _ ((State.ownBusy_of_dropped h hc hb hr).trans ?_)
      rw [State.replyFreed_eq_entryFreed (s := gone) (by omega), State.entryFreed_of_record (s := gone) hw hd]
      rfl
    exact ⟨hexec, fun hp => hexec.trans (congrArg _ (State.finish_of_settled_of_not_idle
      (State.recordSent_settled (State.withoutSent_settled h hset hc hp) hp w) (by decide : (0 : Nat) ≠ 12)))⟩
  · intro w m rest hc hb hw hd hs hmq hle hr own
    have hfree : gone.fq.free = 5 - s.fq.count .reply := State.withoutSent_free h hc hle hr
    have hown : gone.recordOf m .failed (some .gateTimeout) = own := by
      refine gone.recordOf_of_not_moving (show s.mc.state.moving = false from ?_) m _ _
      rcases hs with hs | hs <;> rw [hs] <;> rfl
    have hexec : exec .dropped s = .next ((gone.recordSent w).retire .failed (some .gateTimeout)).finish := by
      refine congrArg _ ((State.ownBusy_of_dropped h hc hb hr).trans ?_)
      rw [State.replyFreed_eq_entryFreed (s := gone) (by omega), State.entryFreed_of_deferred (s := gone) hw hd]
    obtain ⟨hstate, hcause, hqueue, hexpiry, hreport, hroom, hfull, hblocks⟩ :=
      State.deferred_retired (u := gone) (w := w) hmq (by decide : (0 : Nat) ≠ 12) hown
    exact ⟨_, hexec, rfl, hstate, hcause, hqueue, hexpiry, hreport, fun hlt => hroom (by omega),
      fun heq => hfull (by omega), hblocks⟩
  · exact congrArg _ (State.ownBusy_of_not_reply h.sending hc)

end Sys2Proof.Machine
end

section
/-! An attempt that returns to queued, and an announced head that it ends (R41 to R43, R96, R138, R143, R153). -/

-- One proof after another: elaborated side by side they need more threads than the check allows.
set_option deprecated.oldSectionVars true

namespace Sys2Proof.Machine

/-! ## An announced head given up for the causes kept -/

/-- `v` is the state `u` after its announced head `m` was given up for the cause `k`, the causes `ks` joining the set: only
frames of its end have joined the Frame Queue, its queued READYs have left, and its WITHDRAW is queued if the SYNC share had
room (R41 to R43). -/
structure State.GivenUp (u v : State) (m : Move) (rest : List Move) (k : Cause) (ks : List Cause) : Prop where
  ended    : u.HeadEnded v m rest .failed k
  kept     : v.mc.kept = []
  later    : ∀ x ∈ ks, holdsCause v.mc.causes x = true
  lead     : v.lead = u.lead
  link     : v.link = u.link
  frames   : (u.fq.removeQueued OutFrame.isReady).Joined (endFrame (some k)) v.fq
  withdraw : ∀ g, m.group = some g → k ≠ .peerWithdrew → (u.fq.removeQueued OutFrame.isReady).count .sync < 6 →
    v.holdsFrame (.withdraw g m.tag k)

section

variable {u v : State} {m : Move} {rest : List Move} {k : Cause} {ks : List Cause}

theorem State.holdsCause_addCauses (s : State) :
    (∀ x, holdsCause s.mc.causes x = true → holdsCause (s.addCauses ks).mc.causes x = true) ∧
    ∀ x ∈ ks, holdsCause (s.addCauses ks).mc.causes x = true := by
  induction ks generalizing s with
  | nil => exact ⟨fun _ h => h, nofun⟩
  | cons c cs ih =>
    obtain ⟨hold, hnew⟩ := ih (s.addCause c)
    refine ⟨fun x hx => hold x (holdsCause_withCause_of_holds hx c), fun x hx => ?_⟩
    rcases List.mem_cons.mp hx with rfl | hx
    · exact hold x (holdsCause_withCause _ _)
    · exact hnew x hx

theorem State.HeadEnded.addCauses {o : RetireOutcome} (h : u.HeadEnded v m rest o k) :
    u.HeadEnded (v.addCauses ks) m rest o k := by
  obtain ⟨held, cause, queue, position, step, report, blocks, groups⟩ := h
  refine ⟨by simpa using held, v.holdsCause_addCauses.1 k cause, by simpa using queue, by simpa using position,
    by simpa using step, ?_, by simpa using blocks, by simpa using groups⟩
  rw [State.holdsFrame, (State.addCauses_frame ks v).2.1]
  exact report

/-- An announced head is given up with a REPLY entry free (R41, R43). -/
theorem State.giveUp_givenUp (hq : u.mc.queue = m :: rest) (hf : 0 < u.fq.free) (hs : u.lead.step = none) :
    u.GivenUp (u.giveUp .failed k ks) m rest k ks where
  ended := (State.giveUp_headEnded hq hf hs).addCauses (v := u.removeReady.retire .failed (some k))
  kept := by
    have hkept := (State.retire_fields (s := u.removeReady) hq .failed (some k)).2.2.1
    simpa [State.giveUp] using hkept
  later := (u.removeReady.retire .failed (some k)).holdsCause_addCauses.2
  lead := by simp
  link := by simp
  frames := by
    rw [State.giveUp, (State.addCauses_frame ks _).2.1]
    exact u.removeReady.retire_joined .failed (some k)
  withdraw g hg hk hc := by
    rw [State.holdsFrame, State.giveUp, (State.addCauses_frame ks _).2.1]
    exact State.retire_holds_withdraw (s := u.removeReady) hq hg hk hc

/-- The LINK cause given is no longer due (R155). -/
theorem State.GivenUp.linkDone (h : u.GivenUp v m rest k ks) :
    u.GivenUp (v.updMc fun c => { c with linkDue := false }) m rest k ks := by
  obtain ⟨⟨held, cause, queue, position, step, report, blocks, groups⟩, kept, later, lead, link, frames, withdraw⟩ := h
  exact ⟨⟨held, cause, queue, position, step, report, blocks, groups⟩, kept, later, lead, link, frames, withdraw⟩

/-- The end of the event leaves the node so (R12, R94, R155). -/
theorem State.GivenUp.finish (h : u.GivenUp v m rest k ks) (hi : u.link.idleCount ≠ 12) :
    u.GivenUp v.finish m rest k ks := by
  have hheld := h.ended.held
  have hidle : v.link.idleCount ≠ 12 := h.link ▸ hi
  obtain ⟨-, -, -, -, hlead, -, hcauses⟩ := State.finish_frame_of_held hheld
  exact ⟨h.ended.finish, (State.finish_mc_of_held hheld).1.trans h.kept, fun x hx => hcauses x (h.later x hx),
    hlead.trans h.lead, (State.finish_link_of_not_idle hidle).trans h.link,
    h.frames.trans (State.finish_joined_of_held hheld hidle _),
    fun g hg hk hc => State.finish_holdsFrame_of_held hheld (by simp [OutFrame.cls]) (h.withdraw g hg hk hc)⟩

/-- No READY is left but those that were in transmission (R41). -/
theorem State.GivenUp.isReady_mem (h : u.GivenUp v m rest k ks) {x : Entry} (hx : x ∈ v.fq.entries)
    (hr : x.frame.isReady = true) : x ∈ (u.fq.removeQueued OutFrame.isReady).entries :=
  (h.frames.mem_or hx).resolve_right fun hend => by simp [hend.isReady] at hr

end

/-! ## An attempt that returns to queued -/

/-- The block that queued the frame has nothing to do when it returns to queued: no cause was kept, and no upgrade is held for
its notice (R42, R96). -/
theorem State.returned_of_nothing {s : State} {f : OutFrame} (hk : f.isReady = true → s.mc.kept = [])
    (hu : ∀ n ∈ s.mc.notices, f.isHaltFor n.group = true → n.upgrade = none) : s.returned f = s := by
  unfold State.returned
  cases f with
  | ready g t => simp only [hk rfl]
  | halt g k c t =>
    simp only [State.noticeReturned]
    cases hn : s.noticeFor g with
    | none => rfl
    | some n =>
      obtain ⟨hmem, hg⟩ := State.noticeFor_some hn
      simp only [hu n hmem (by simp [OutFrame.isHaltFor, hg])]
  | _ => rfl

section

variable {s : State} {before after : List Entry} {e : Entry}

/-- The state once the attempt was lost in arbitration, before its block is told: the winner's frame is in progress (R138). -/
def State.lost (s : State) : State := s.aside FrameQueue.requeue fun l => { l with idleCount := 0, inFrame := true }

/-- The state once the attempt was rejected with this node's marks in its slot, before its block is told (R143). -/
def State.turnedDown (m : SlotMarks) (s : State) : State :=
  s.aside FrameQueue.requeue fun l => { l with idleCount := 0, inFrame := false, rejects := l.rejects + 1, marks := m }

theorem State.attemptLost_of_sending (h : s.fq.sending = some e) : s.attemptLost = (s.lost.returned e.frame).finish := by
  rw [State.attemptLost, h]
  rfl

theorem State.attemptRejected_of_few (h : s.fq.sending = some e) (hr : s.link.rejects < 3) :
    s.attemptRejected =
      ((s.updFq FrameQueue.requeue).updLink fun l => { l with rejects := l.rejects + 1 }).returned e.frame := by
  rw [State.attemptRejected, h]
  exact if_pos (Nat.succ_lt_succ hr)

/-- Fewer than three rejected attempts in a row before it: the entry is queued again (R143). -/
theorem State.ownRejected_of_few (h : s.fq.sending = some e) (hr : s.link.rejects < 3) (hres : s.fq.reserved = false)
    (m : SlotMarks) : s.ownRejected m = ((s.turnedDown m).returned e.frame).finish := by
  rw [State.ownRejected_of_sending h, State.unreserved_of_none (s := s.afterSlot m) hres,
    State.attemptRejected_of_few (s := s.afterSlot m) h hr]
  rfl

/-- An entry still reserved is released first, which comes to the same as a release after the attempt has ended (R143,
R156). -/
theorem State.ownRejected_of_few_reserved (h : s.fq.sending = some e) (hr : s.link.rejects < 3)
    (hres : s.fq.reserved = true) (hc : s.fq.count .reply < 4) (m : SlotMarks) :
    s.ownRejected m = ((s.turnedDown m).slotOver.returned e.frame).finish := by
  rw [State.ownRejected_slotOver h hres hc, State.ownRejected_of_few (s.slotOver_sending.trans h)
    (by rwa [State.slotOver_link]) s.slotOver_reserved, State.turnedDown, State.turnedDown,
    State.aside_slotOver FrameQueue.unseen_requeue]

theorem State.lost_eq (h : s.fq.Sends before e after) :
    s.lost =
      { s with
        fq := { s.fq with entries := before ++ { e with status := .queued } :: after }
        link := { s.link with idleCount := 0, inFrame := true } } := by
  rw [State.lost, State.aside, h.requeue]

theorem State.turnedDown_eq (h : s.fq.Sends before e after) (how : Sys2Proof.RejectedBy) :
    s.turnedDown (RejectedBy.marks how) =
      { s with
        fq := { s.fq with entries := before ++ { e with status := .queued } :: after }
        link := { s.link with idleCount := 0, inFrame := false, rejects := s.link.rejects + 1,
                              marks := { checkReject := decide (how = .ownCheck ∨ how = .dropOut true)
                                         addresseeBusy := false } } } := by
  rw [State.turnedDown, State.aside, h.requeue, RejectedBy.marks_eq]

theorem State.aside_slotOver_of_no_record {f : FrameQueue → FrameQueue} {l : Link → Link} (h : s.mc.record = none) :
    (s.aside f l).slotOver = s.aside (fun q => { f q with reserved := false }) l :=
  State.slotOver_of_no_record (s := s.aside f l) h

/-- A release leaves the notices, and the causes kept where there are none (R18, R19). -/
theorem State.slotOver_notices (s : State) :
    s.slotOver.mc.notices = s.mc.notices ∧ (s.mc.kept = [] → s.slotOver.mc.kept = []) := by
  unfold State.slotOver State.entryFreed
  dsimp only
  split
  · exact ⟨rfl, id⟩
  · split
    · refine ⟨by simp, fun hk => ?_⟩
      unfold State.retire
      split
      · exact hk
      · rfl
    · exact ⟨rfl, id⟩

end

/-! ## A READY that returns with causes kept -/

/-- A queued entry that is picked leaves its class (R154). -/
theorem FrameQueue.count_removeQueued_lt {q : FrameQueue} {pick : OutFrame → Bool} {e : Entry} (he : e ∈ q.entries)
    (hs : e.status = .queued) (hp : pick e.frame = true) :
    (q.removeQueued pick).count e.frame.cls < q.count e.frame.cls := by
  have hsplit := List.countP_eq_countP_filter_add q.entries (fun x => decide (x.frame.cls = e.frame.cls))
    fun x => !(decide (x.status = .queued) && pick x.frame)
  have hpos : 0 < (q.entries.filter fun x => !!(decide (x.status = .queued) && pick x.frame)).countP
      fun x => decide (x.frame.cls = e.frame.cls) :=
    List.countP_pos_iff.mpr ⟨e, by simp [he, hs, hp], by simp⟩
  simp only [FrameQueue.count, FrameQueue.removeQueued]
  omega

/-- The READY of an announced head returns to queued with causes kept: it leaves the queue, and the head has failed with the
first of them (R42, R43). -/
theorem State.ready_returned_ends {s : State} {before after : List Entry} {e : Entry} {g : GroupNo} {m : Move}
    {rest : List Move} {k : Cause} {ks : List Cause} (hok : s.ok) (h : s.fq.Sends before e after)
    (he : e.frame = .ready g m.tag) (hq : s.mc.queue = m :: rest) (hk : s.mc.kept = k :: ks)
    {f : FrameQueue → FrameQueue} {l : Link → Link} (hf : (f s.fq).entries = s.fq.requeue.entries)
    (hfree : s.fq.free ≤ (f s.fq).free) (hi : (l s.link).idleCount ≠ 12) :
    let t := ((s.aside f l).returned e.frame).finish
    t.mc.state = .held ∧ t.mc.queue = rest ∧ t.mc.kept = [] ∧ (∀ x ∈ k :: ks, holdsCause t.mc.causes x = true) ∧
    (∀ x ∈ t.fq.entries, x.frame.isReady = false) ∧ t.holdsFrame (.withdraw g m.tag k) ∧
    (∃ x ∈ t.fq.entries, x.frame = .report m.origin
      { tag := m.tag, group := m.group, outcome := .failed, cause := some k, progress := 0, pulses := 0,
        position := s.lead.position }) ∧
    t.store = s.store ∧ t.peer = s.peer ∧ t.lead = s.lead ∧ t.out = s.out ∧ t.inp = s.inp := by
  intro t
  have hready : e.frame.isReady = true := by rw [he]; rfl
  have hmem : e ∈ s.fq.entries := h.entries ▸ by simp
  have hst : s.mc.state = .announcing := hok.causes.2.2.1 (by simp [hk])
  have hstill : s.mc.state.moving = false := by rw [hst]; rfl
  obtain ⟨m', hm', g', hg', hframe⟩ := (hok.ready.2.1 e hmem hready).2
  obtain rfl : m = m' := by simpa [hq] using hm'
  obtain rfl : g = g' := by simpa [he] using hframe
  have hentries : (f s.fq).entries = before ++ { e with status := .queued } :: after := by rw [hf, h.requeue]
  have hqueued : (f s.fq).sending = none := by
    refine List.find?_eq_none.mpr fun x hx => ?_
    rw [hf] at hx
    obtain ⟨y, -, rfl⟩ := List.mem_map.mp hx
    simp
  have hgiven : (s.aside f l).GivenUp t m rest k ks := by
    have hgiveUp : (s.aside f l).returned e.frame = (s.aside f l).giveUp .failed k ks := by
      rw [he]
      simp only [State.returned, State.aside, hk]
    have := (State.giveUp_givenUp (u := s.aside f l) (k := k) (ks := ks) hq
      ((hok.room (.inl (by rw [hst]; rfl))).1.trans_le hfree) (hok.lead.2.2.1 hstill)).finish hi
    rwa [← hgiveUp] at this
  have hfits : ((f s.fq).removeQueued OutFrame.isReady).count .sync < 6 := by
    have hlt := FrameQueue.count_removeQueued_lt (q := f s.fq) (pick := OutFrame.isReady)
      (e := { e with status := .queued }) (by simp [hentries]) rfl hready
    have hcount : (f s.fq).count .sync = s.fq.count .sync := by
      rw [← s.fq.count_requeue, FrameQueue.count, hf, FrameQueue.count]
    have hle : s.fq.count .sync ≤ 6 := hok.shares.1 .sync
    simp only [OutFrame.isReady_cls hready] at hlt
    omega
  have hwithdrew : k ≠ .peerWithdrew := fun hc => by simpa [hk, hc] using hok.causes.2.2.2 k (by simp [hk])
  obtain ⟨hheld, hcause, hqueue, -, -, hreport, ⟨hstore, hpeer, hout, hinp⟩, -⟩ := hgiven.ended
  refine ⟨hheld, hqueue, hgiven.kept, ?_, fun x hx => ?_, hgiven.withdraw g hg' hwithdrew hfits, ?_, hstore, hpeer,
    hgiven.lead, hout, hinp⟩
  · exact List.forall_mem_cons.mpr ⟨hcause, hgiven.later⟩
  · refine Bool.eq_false_iff.mpr fun hr => ?_
    have hleft : x ∈ ((f s.fq).removeQueued OutFrame.isReady).entries := hgiven.isReady_mem hx hr
    rw [FrameQueue.removeQueued_of_not_sending hqueued] at hleft
    simpa [hr] using (List.mem_filter.mp hleft).2
  · rwa [State.recordOf_of_not_moving (s := s.aside f l) hstill] at hreport

/-! ## A HALT that returns with an upgrade held -/

theorem FrameQueue.Sends.mem {q : FrameQueue} {before after : List Entry} {e : Entry} (h : q.Sends before e after) :
    e ∈ q.entries := h.entries ▸ by simp

/-- The only frame of its class that the queue holds (R150). -/
theorem FrameQueue.Sends.alone {q : FrameQueue} {before after : List Entry} {e : Entry} (h : q.Sends before e after)
    (hc : q.count e.frame.cls ≤ 1) : ∀ x ∈ before ++ after, x.frame.cls ≠ e.frame.cls := by
  have hcount := h.count_endSending e.frame.cls
  rw [if_pos rfl, h.endSending] at hcount
  have hzero : (before ++ after).countP (fun x => decide (x.frame.cls = e.frame.cls)) = 0 := by
    simp only [FrameQueue.count] at hcount hc
    omega
  simpa using List.countP_eq_zero.mp hzero

/-- The HALT in transmission returns to queued and takes the upgrade held for its notice (R96). -/
theorem FrameQueue.Sends.requeue_changeHalt {q : FrameQueue} {before after : List Entry} {e : Entry} {g : GroupNo}
    (h : q.Sends before e after) (he : e.frame.isHaltFor g = true) (hc : q.count .urgent ≤ 1) (n : NoticeContent) :
    q.requeue.changeHalt g n =
      { q with entries := before ++
        { e with status := .queued, frame := .halt g n.kind n.cause n.tag } :: after } := by
  have hurgent := OutFrame.isHaltFor_cls he
  have hothers {x : Entry} (hx : x ∈ before ++ after) : x.frame.isHaltFor g = false :=
    Bool.eq_false_iff.mpr fun hg => h.alone (hurgent ▸ hc) x hx ((OutFrame.isHaltFor_cls hg).trans hurgent.symm)
  have hid {xs : List Entry} (hx : ∀ x ∈ xs, x.frame.isHaltFor g = false) :
      (xs.map fun x => if x.status = .queued ∧ x.frame.isHaltFor g = true then
        { x with frame := .halt g n.kind n.cause n.tag } else x) = xs :=
    (List.map_congr_left fun x hm => if_neg (by simp [hx x hm])).trans (List.map_id _)
  rw [h.requeue]
  refine congrArg (FrameQueue.mk · q.reserved) ?_
  rw [List.map_append, List.map_cons, hid fun x hx => hothers (List.mem_append_left _ hx),
    hid fun x hx => hothers (List.mem_append_right _ hx), if_pos ⟨rfl, he⟩]

/-- The HALT in transmission returns to queued with an upgrade held for its notice, and nothing follows (R94, R96). -/
theorem State.halt_returned_upgraded {s : State} {before after : List Entry} {e : Entry} {g : GroupNo} {k : HaltKind}
    {c : Cause} {tag : Tag} {n : Notice} {u : NoticeContent} (hok : s.ok) (h : s.fq.Sends before e after)
    (he : e.frame = .halt g k c tag) (hn : s.noticeFor g = some n) (hu : n.upgrade = some u) {l : Link → Link}
    (hi : (l s.link).idleCount ≠ 12) :
    let said := if u.kind = .now ∧ n.content.kind = .ramp then u else n.content
    ((s.aside FrameQueue.requeue l).returned e.frame).finish =
      { s with
        fq := { s.fq with entries := before ++
          { e with status := .queued, frame := .halt g said.kind said.cause said.tag } :: after }
        mc := { s.mc with notices := s.mc.notices.map fun x =>
          if x.group = g then { x with content := said, upgrade := none } else x }
        link := l s.link } := by
  intro said
  have hhalt : e.frame.isHaltFor g = true := by simp [he, OutFrame.isHaltFor]
  have hfor : (s.aside FrameQueue.requeue l).noticeFor g = some n := hn
  have hurgent : s.fq.count .urgent ≤ 1 := hok.shares.1 .urgent
  have hpos : 0 < s.fq.count .urgent :=
    List.countP_pos_iff.mpr ⟨e, h.mem, by simp [OutFrame.isHaltFor_cls hhalt]⟩
  have hreturned : (s.aside FrameQueue.requeue l).returned e.frame =
      { s with
        fq := s.fq.requeue.changeHalt g said
        mc := { s.mc with notices := changeNotice g (fun x => { x with content := said, upgrade := none }) s.mc.notices }
        link := l s.link } := by
    rw [he]
    simp only [State.returned, State.noticeReturned, hfor, hu]
    rfl
  rw [hreturned, ← h.requeue_changeHalt hhalt hurgent]
  refine State.finish_of_settled_of_not_idle ⟨hok.settled.1, fun hp m hm => ?_, fun hlt => ?_⟩ hi
  · rw [← hok.settled.2.1 hp m hm]
    exact State.readyFor_congr m rfl (by simp) rfl
  · simp only [FrameQueue.count_changeHalt, FrameQueue.count_requeue, share] at hlt
    omega

/-! ## The obligation -/

section

variable {s : State} {before after : List Entry} {e : Entry}

/-- Nothing follows a rejected attempt whose block has nothing to do (R143). -/
theorem State.ownRejected_of_nothing (h : s.fq.Sends before e after) (hset : s.settled)
    (hk : e.frame.isReady = true → s.mc.kept = [])
    (hu : ∀ n ∈ s.mc.notices, e.frame.isHaltFor n.group = true → n.upgrade = none) (hr : s.link.rejects < 3)
    (m : SlotMarks) :
    (s.fq.reserved = false → s.ownRejected m = s.turnedDown m) ∧
    (s.fq.reserved = true → s.fq.count .reply < 4 → s.ownRejected m = (s.turnedDown m).slotOver.finish) := by
  refine ⟨fun hres => ?_, fun hres hc => ?_⟩
  · rw [State.ownRejected_of_few h.sending hr hres, State.returned_of_nothing (s := s.turnedDown m) hk hu]
    exact State.finish_of_quiet hset rfl rfl rfl (State.aside_free FrameQueue.unseen_requeue s).le (s.fq.count_requeue _)
  · obtain ⟨hnotices, hkept⟩ := (s.turnedDown m).slotOver_notices
    rw [State.ownRejected_of_few_reserved h.sending hr hres hc,
      State.returned_of_nothing (fun hf => hkept (hk hf)) (by rw [hnotices]; exact hu)]

end

/-- Settles O16: the attempt returns to queued, and then its block acts on what was kept for the frame. -/
theorem attemptReturnsToQueued : Obligations.AttemptReturnsToQueued := by
  intro s before after e how hq hst ho fq
  have h : s.fq.Sends before e after := ⟨hq, hst, ho⟩
  refine ⟨fun hset hk hu => ⟨?_, fun hr => ?_⟩, ?_, ?_⟩
  · refine congrArg Host.Outcome.next ((State.attemptLost_of_sending h.sending).trans ?_)
    rw [State.returned_of_nothing (s := s.lost) hk hu]
    refine Eq.trans ?_ (State.lost_eq h)
    exact State.finish_of_quiet hset rfl rfl rfl (State.aside_free FrameQueue.unseen_requeue s).le (s.fq.count_requeue _)
  · obtain ⟨hfree, hreserved⟩ := State.ownRejected_of_nothing h hset hk hu hr (RejectedBy.marks how)
    rw [State.turnedDown_eq h] at hfree hreserved
    exact ⟨fun hres => congrArg _ (hfree hres), fun hres hc => congrArg _ (hreserved hres hc)⟩
  · intro g m rest k ks hok he hmq hk hr
    have hfree : s.fq.free ≤ s.fq.requeue.free := by simp
    refine List.forall_mem_cons.mpr ⟨⟨_, congrArg Host.Outcome.next (State.attemptLost_of_sending h.sending),
      State.ready_returned_ends hok h he hmq hk rfl hfree (by decide : (0 : Nat) ≠ 12)⟩,
      List.forall_mem_cons.mpr ⟨?_, nofun⟩⟩
    cases hres : s.fq.reserved with
    | false =>
      exact ⟨_, congrArg Host.Outcome.next (State.ownRejected_of_few h.sending hr hres _),
        State.ready_returned_ends hok h he hmq hk rfl hfree (by decide : (0 : Nat) ≠ 12)⟩
    | true =>
      have hroom := hok.room (.inl (by rw [hok.causes.2.2.1 (by simp [hk])]; rfl))
      refine ⟨_, congrArg Host.Outcome.next
        (State.ownRejected_of_few_reserved h.sending hr hres (hok.shares.2 hres).1 _), ?_⟩
      rw [State.turnedDown, State.aside_slotOver_of_no_record hroom.2.1]
      exact State.ready_returned_ends hok h he hmq hk rfl (hfree.trans (FrameQueue.free_reserved_false _))
        (by decide : (0 : Nat) ≠ 12)
  · intro g k c tag n u hok he hn hu said merged
    refine ⟨?_, fun hr hres => ?_⟩
    · exact congrArg _ ((State.attemptLost_of_sending h.sending).trans
        (State.halt_returned_upgraded hok h he hn hu (by decide : (0 : Nat) ≠ 12)))
    · rw [← RejectedBy.marks_eq]
      exact congrArg _ ((State.ownRejected_of_few h.sending hr hres _).trans
        (State.halt_returned_upgraded hok h he hn hu (by decide : (0 : Nat) ≠ 12)))

end Sys2Proof.Machine
end

section
/-! The frame in hand discarded at the fourth rejected attempt in a row (R12, R18, R19, R42 to R44, R94, R101, R144). -/

-- One proof after another: elaborated side by side they need more threads than the check allows.
set_option deprecated.oldSectionVars true

namespace Sys2Proof.Machine

section

variable {s : State} {before after : List Entry} {e : Entry}

/-- The state once the frame in hand was discarded with this node's marks in its slot, before its block is told (R144). -/
def State.discarded (s : State) (before after : List Entry) (m : SlotMarks) : State :=
  { s with
    fq := { s.fq with entries := before ++ after }
    link := { s.link with state := .listenOnly, rejects := 0, listenTimer := some 20, idleCount := 0, inFrame := false
                          marks := m } }

theorem State.discarded_count (h : s.fq.Sends before e after) (m : SlotMarks) (k : FrameClass) :
    (s.discarded before after m).fq.count k + (if e.frame.cls = k then 1 else 0) = s.fq.count k :=
  State.withoutSent_count h k

/-- The fourth rejected attempt in a row discards the frame: its block is told, and then the LINK cause is given (R144). -/
theorem State.ownRejected_of_fourth (h : s.fq.Sends before e after) (hr : s.link.rejects = 3)
    (hres : s.fq.reserved = false) (m : SlotMarks) :
    s.ownRejected m = (((s.discarded before after m).discardTold e.frame).discardLink e.frame).finish := by
  have hattempt : (s.afterSlot m).attemptRejected =
      ((s.discarded before after m).discardTold e.frame).discardLink e.frame := by
    rw [State.attemptRejected, (State.afterSlot_frame m s).1, h.sending]
    unfold State.discarded
    rw [← h.endSending]
    exact if_neg (by simp [hr, Config.rejectLimit])
  rw [State.ownRejected_of_sending h.sending, State.unreserved_of_none (s := s.afterSlot m) hres, hattempt]

/-- With no record waiting, a reservation still standing is only released (R156). -/
theorem State.ownRejected_of_no_record (h : s.fq.sending = some e) (hrec : s.mc.record = none)
    (hc : s.fq.reserved = true → s.fq.count .reply < 4) (m : SlotMarks) :
    s.ownRejected m = ({ s with fq := { s.fq with reserved := false } } : State).ownRejected m := by
  cases hres : s.fq.reserved with
  | false => rw [← hres]
  | true => rw [State.ownRejected_slotOver h hres (hc hres), State.slotOver_of_no_record hrec]

/-! ## By the class of the frame -/

theorem State.discardTold_of_reply {s : State} {f : OutFrame} (h : f.cls = .reply) : s.discardTold f = s.replyFreed := by
  unfold State.discardTold
  split
  · simp_all
  · rfl
  · simp_all

theorem State.discardTold_of_silent {s : State} {f : OutFrame} (h : f.cls = .sync ∨ f.cls = .beacon) :
    s.discardTold f = s := by
  unfold State.discardTold
  split
  · simp_all
  · simp_all
  · rfl

theorem State.discardLink_of_sync {s : State} {f : OutFrame} (h : f.cls = .sync) : s.discardLink f = s.takeLink := by
  unfold State.discardLink
  split
  · rfl
  · rfl
  · simp_all

theorem State.discardLink_of_silent {s : State} {f : OutFrame} (h : f.cls = .reply ∨ f.cls = .beacon) :
    s.discardLink f = s := by
  unfold State.discardLink
  split
  · simp_all
  · simp_all
  · rfl

theorem State.ownRejected_of_discarded_beacon (h : s.fq.Sends before e after) (hset : s.settled) (hr : s.link.rejects = 3)
    (hc : e.frame.cls = .beacon) (hres : s.fq.reserved = false) (m : SlotMarks) :
    s.ownRejected m = s.discarded before after m := by
  have hcount (k : FrameClass) (hk : k ≠ .beacon) : (s.discarded before after m).fq.count k = s.fq.count k := by
    simpa [hc, hk.symm] using State.discarded_count h m k
  rw [State.ownRejected_of_fourth h hr hres, State.discardTold_of_silent (.inr hc), State.discardLink_of_silent (.inr hc)]
  exact State.finish_of_quiet hset rfl rfl rfl (FrameQueue.free_congr (hcount .reply nofun) rfl).le (hcount .urgent nofun)

/-- The REPLY entry that a discarded frame leaves goes first to a record that waits (R144, R153). -/
theorem State.ownRejected_of_discarded_reply (h : s.fq.Sends before e after) (hle : s.fq.count .reply ≤ 4)
    (hr : s.link.rejects = 3) (hc : e.frame.cls = .reply) (hres : s.fq.reserved = false) (m : SlotMarks) :
    s.ownRejected m = (s.discarded before after m).entryFreed.finish := by
  have hfree : 0 < (s.discarded before after m).fq.free := by
    have hcount : (s.withoutSent before after).fq.free = 5 - s.fq.count .reply := State.withoutSent_free h hc hle hres
    have hsame : (s.discarded before after m).fq.free = (s.withoutSent before after).fq.free := rfl
    omega
  rw [State.ownRejected_of_fourth h hr hres, State.discardTold_of_reply hc, State.discardLink_of_silent (.inl hc),
    State.replyFreed_eq_entryFreed hfree]

theorem State.ownRejected_of_discarded_sync (h : s.fq.Sends before e after) (hr : s.link.rejects = 3)
    (hc : e.frame.cls = .sync) (hres : s.fq.reserved = false) (m : SlotMarks) :
    s.ownRejected m = (s.discarded before after m).takeLink.finish := by
  rw [State.ownRejected_of_fourth h hr hres, State.discardTold_of_silent (.inl hc), State.discardLink_of_sync hc]

/-- A DEFERRED notice takes the place of that of a discarded HALT (R94, R101). -/
theorem State.ownRejected_of_discarded_halt {g : GroupNo} {k : HaltKind} {c : Cause} {tag : Tag} {n : Notice}
    (h : s.fq.Sends before e after) (hr : s.link.rejects = 3) (he : e.frame = .halt g k c tag)
    (hn : s.noticeFor g = some n) (hres : s.fq.reserved = false) (m : SlotMarks) :
    s.ownRejected m =
      ({ s.discarded before after m with
        mc := { s.mc with notices := withoutNotice g s.mc.notices ++
          [{ group := g, content := { kind := .now, cause := .link, tag := n.content.tag }, status := .deferred
             upgrade := none }] } } : State).takeLink.finish := by
  have hnone (u : State) (hu : u.mc.notices = withoutNotice g s.mc.notices) : u.noticeFor g = none := by
    rw [State.noticeFor, hu]
    exact List.find?_eq_none.mpr fun x hx => by simpa [withoutNotice] using (List.mem_filter.mp hx).2
  have htold : (s.discarded before after m).noticeDiscarded g =
      { s.discarded before after m with
        mc := { s.mc with notices := withoutNotice g s.mc.notices ++
          [{ group := g, content := { kind := .now, cause := .link, tag := n.content.tag }, status := .deferred
             upgrade := none }] } } := by
    rw [State.noticeDiscarded, show (s.discarded before after m).noticeFor g = some n from hn]
    simp only
    rw [State.raiseNotice, hnone _ rfl]
    rfl
  rw [State.ownRejected_of_fourth h hr hres, he]
  exact congrArg (fun u : State => u.takeLink.finish) htold

/-! ## The LINK cause -/

/-- The LINK cause on a HELD node joins the set, and the end of the event only fills the URGENT share (R101). -/
theorem State.takeLink_finish_of_held {s : State} (hs : s.mc.state = .held) (hd : s.mc.linkDue = false)
    (hi : s.link.idleCount = 0) :
    s.takeLink.finish =
      State.fillUrgent { s with mc := { s.mc with causes := withCause s.mc.causes .link } } := by
  let linked : State := { s with mc := { s.mc with causes := withCause s.mc.causes .link } }
  have hlink : s.takeLink = linked := by
    rw [State.takeLink, State.linkCause, hs]
    simp only [State.addCause, State.updMc, ← hd]
    rfl
  rw [hlink, State.finish_of_held (s := linked) hs, State.giveLink_of_not_due (s := linked) hd]
  exact State.offer_of_not_idle (by simp [linked, hi])

/-- The LINK cause on an announced head gives it up for the first cause kept, or for LINK, and the others kept and LINK join
the set (R42, R101). -/
theorem State.linkCause_of_announcing {s : State} (hs : s.mc.state = .announcing) :
    ∃ ks, s.linkCause = s.giveUp .failed (s.mc.kept.headD .link) ks ∧
      ∀ x ∈ Cause.link :: s.mc.kept, x = s.mc.kept.headD .link ∨ x ∈ ks := by
  unfold State.linkCause
  rw [hs]
  cases s.mc.kept with
  | nil => exact ⟨[], rfl, by simp⟩
  | cons k ks => exact ⟨ks ++ [.link], rfl, by simp +contextual⟩

/-- The discarded READY of an announced head ends it (R42, R144). -/
theorem State.ready_discarded_ends {g : GroupNo} {m : Move} {rest : List Move} (hok : s.ok)
    (h : s.fq.Sends before e after) (hr : s.link.rejects = 3) (he : e.frame = .ready g m.tag)
    (hs : s.mc.state = .announcing) (hq : s.mc.queue = m :: rest) (marks : SlotMarks) :
    let u := ({ s with fq := { s.fq with reserved := false } } : State).discarded before after marks
    ∃ ks, u.GivenUp (s.ownRejected marks) m rest (s.mc.kept.headD .link) ks ∧
      (∀ x ∈ Cause.link :: s.mc.kept, x = s.mc.kept.headD .link ∨ x ∈ ks) ∧ u.fq.count .sync < 6 := by
  intro u
  have hc : e.frame.cls = .sync := by rw [he]; rfl
  have hcount := State.discarded_count h marks
  obtain ⟨hfree, hrec, -⟩ := hok.room (.inl (by rw [hs]; rfl))
  have hexec : s.ownRejected marks = u.takeLink.finish := by
    rw [State.ownRejected_of_no_record h.sending hrec fun hres => (hok.shares.2 hres).1]
    exact State.ownRejected_of_discarded_sync (s := { s with fq := { s.fq with reserved := false } }) (h.congr rfl) hr
      hc rfl marks
  obtain ⟨ks, hlink, hks⟩ := State.linkCause_of_announcing (s := u) hs
  have hroom : 0 < u.fq.free := by
    have hreply : (s.discarded before after marks).fq.count .reply = s.fq.count .reply := by simpa [hc] using hcount .reply
    exact hfree.trans_le ((FrameQueue.free_reserved_false s.fq).trans
      (FrameQueue.free_congr (q := { s.fq with reserved := false }) (r := u.fq) hreply rfl).ge)
  refine ⟨ks, ?_, hks, ?_⟩
  · rw [hexec, State.takeLink, hlink]
    exact ((State.giveUp_givenUp (u := u) hq hroom (hok.lead.2.2.1 (by rw [hs]; rfl))).linkDone).finish
      (by decide : (0 : Nat) ≠ 12)
  · have hle : s.fq.count .sync ≤ 6 := hok.shares.1 .sync
    have hsync := hcount .sync
    rw [if_pos hc] at hsync
    exact (Nat.lt_of_succ_le hsync.le).trans_le hle

end

/-- Settles O17: by the class of the frame, and a discarded READY ends the announced head. -/
theorem fourthRejectionDiscards : Obligations.FourthRejectionDiscards := by
  intro s before after e how hok hr hq hst ho t
  have h : s.fq.Sends before e after := ⟨hq, hst, ho⟩
  have ht : t = s.discarded before after (RejectedBy.marks how) := by
    rw [RejectedBy.marks_eq]
    rfl
  have hset := hok.settled
  have hurgent (hc : e.frame.cls ≠ .urgent) : t.fq.count .urgent = s.fq.count .urgent := by
    have hcount := State.discarded_count h (RejectedBy.marks how) .urgent
    rwa [if_neg hc, ← ht] at hcount
  refine ⟨fun hres => ?_, fun hc hres => ?_, fun hc hres => ?_, fun hc hres => ?_, fun hc hres hs => ?_, ?_, ?_⟩
  · exact congrArg Host.Outcome.next (State.ownRejected_slotOver h.sending hres (hok.shares.2 hres).1 _)
  · rw [ht]
    exact congrArg _ (State.ownRejected_of_discarded_beacon h hset hr hc hres _)
  · have hexec : exec (.discarded how) s = .next t.entryFreed.finish := by
      rw [ht]
      exact congrArg _ (State.ownRejected_of_discarded_reply h (hok.shares.1 .reply) hr hc hres _)
    refine ⟨hexec, fun hrec hp => ?_⟩
    rw [hexec, State.entryFreed_of_no_record (s := t) hrec]
    exact congrArg _ (State.finish_of_settled_of_not_idle (hset.of_not_pending hset.1 hp rfl (hurgent (by simp [hc])))
      (by decide : (0 : Nat) ≠ 12))
  · rw [ht]
    exact congrArg _ (State.ownRejected_of_discarded_sync h hr hc hres _)
  · have hexec := State.ownRejected_of_discarded_sync h hr hc hres (RejectedBy.marks how)
    rw [← ht, State.takeLink_finish_of_held (s := t) hs hset.1 rfl] at hexec
    refine congrArg _ (hexec.trans (State.fillUrgent_of_none fun hlt => hset.2.2 ?_))
    exact (hurgent (by simp [hc])).symm.trans_lt hlt
  · intro g k c tag n he hn hres notices
    have hexec := State.ownRejected_of_discarded_halt h hr he hn hres (RejectedBy.marks how)
    rw [← ht] at hexec
    refine ⟨congrArg _ hexec, fun hs => congrArg _ (hexec.trans ?_)⟩
    exact State.takeLink_finish_of_held (s := { t with mc := { s.mc with notices } }) hs hset.1 rfl
  · intro g m rest he hs hmq cause
    obtain ⟨ks, hgiven, hks, hsync⟩ := State.ready_discarded_ends hok h hr he hs hmq (RejectedBy.marks how)
    have hcauses {x : Cause} (hx : x ∈ Cause.link :: s.mc.kept) :
        holdsCause (s.ownRejected (RejectedBy.marks how)).mc.causes x = true := by
      rcases hks x hx with rfl | hx
      · exact hgiven.ended.cause
      · exact hgiven.later x hx
    have hwithdrew : cause ≠ .peerWithdrew := by
      intro hc
      cases hk : s.mc.kept with
      | nil => simp [cause, hk] at hc
      | cons k _ =>
        have hk' : k = .peerWithdrew := by simpa [cause, hk] using hc
        simpa [hk, hk'] using hok.causes.2.2.2 k (by simp [hk])
    have hreport := hgiven.ended.report
    rw [State.recordOf_of_not_moving (by exact congrArg NodeState.moving hs)] at hreport
    obtain ⟨hstore, hpeer, hout, hinp⟩ := hgiven.ended.blocks
    refine ⟨_, rfl, hgiven.ended.held, hcauses List.mem_cons_self, hgiven.ended.queue,
      fun x hx => hcauses (List.mem_cons_of_mem _ hx), hgiven.kept, ht ▸ hgiven.link, hreport, fun x hx => ?_,
      fun x hx hready => List.mem_of_mem_filter (hgiven.isReady_mem hx hready), hstore, hpeer, hgiven.lead, hout, hinp⟩
    exact hgiven.withdraw x hx hwithdrew ((FrameQueue.count_removeQueued_le _ _ _).trans_lt hsync)

end Sys2Proof.Machine
end

section
/-! The slot of a frame that this node hears: its mark, a frame that is rejected in it, and an address clash (R139 to R142,
R147, R156). -/

-- One proof after another: elaborated side by side they need more threads than the check allows.
set_option deprecated.oldSectionVars true

namespace Sys2Proof.Machine

/-! ## The commands that a frame taken from the bus comes to -/

/-- The source and the number of the request that a command is, if it is one. -/
def requestHead : Instr → Option (Nat × Nat)
  | .configGroup src num _ _ => some (src, num)
  | .configProfile src num _ _ _ _ _ => some (src, num)
  | .configProfileTablePart src num _ _ _ _ => some (src, num)
  | .configLimits src num _ _ => some (src, num)
  | .configTiming src num _ _ _ => some (src, num)
  | .configInputs src num _ _ _ _ _ _ => some (src, num)
  | .commit src num => some (src, num)
  | .load src num _ => some (src, num)
  | .flush src num => some (src, num)
  | .stop src num _ => some (src, num)
  | .resume src num => some (src, num)
  | .setpos src num _ => some (src, num)
  | .scale src num _ => some (src, num)
  | .queryNode src num => some (src, num)
  | .queryGroup src num _ _ => some (src, num)
  | .queryQueue src num _ => some (src, num)
  | .restart src num => some (src, num)
  | _ => none

/-- Every request goes the one way of `State.request` (R141, R156, R157). -/
theorem exec_of_requestHead {i : Instr} {src num : Nat} (h : requestHead i = some (src, num)) :
    ∃ k act after, ∀ s, exec i s = .next (s.request src num k act after) := by
  unfold requestHead at h
  split at h
  case h_18 => cases h
  all_goals
    obtain ⟨rfl, rfl⟩ := Prod.mk.inj (Option.some.inj h)
    exact ⟨_, _, _, fun _ => rfl⟩

/-- The source of the frame that asks for no reply that a command is, if it is one. -/
def hearingHead : Instr → Option Nat
  | .readyTaken src _ _ => some src
  | .withdrawTaken src _ _ _ => some src
  | .haltTaken src _ _ _ _ => some src
  | .markTaken src _ _ _ => some src
  | .groupScaleTaken src _ _ => some src
  | .beaconTaken src _ _ => some src
  | .replyFrameTaken src => some src
  | _ => none

/-- Every frame that asks for no reply goes the one way of `State.takeFrom` (R142). -/
theorem exec_of_hearingHead {i : Instr} {src : Nat} (h : hearingHead i = some src) :
    ∃ own act, ∀ s, exec i s = .next (s.takeFrom src own act) := by
  unfold hearingHead at h
  split at h
  case h_8 => cases h
  all_goals
    obtain rfl := Option.some.inj h
    exact ⟨_, _, fun _ => rfl⟩

/-! ## The mark of a slot -/

/-- A slot finds no room when nothing is reserved and fewer than 2 entries are free (R141, R156). -/
theorem State.hasRoom_iff {s : State} : s.hasRoom = true ↔ ¬(s.fq.reserved = false ∧ s.fq.free < 2) := by
  cases hr : s.fq.reserved <;> simp [State.hasRoom, hr, Nat.succ_le_iff]

theorem State.hasRoom_of_room {s : State} (h : 2 ≤ s.fq.free ∨ s.fq.reserved = true) : s.hasRoom = true := by
  rcases h with h | h <;> simp [State.hasRoom, h]

/-- The two marks of a slot (R140, R141). -/
theorem State.slotMark_eq (r : RawFrame) (s : State) :
    s.slotMark r =
      { checkReject := !RawFrame.checkPasses r
        addresseeBusy := RawFrame.checkPasses r && RawFrame.asksReply r s.self &&
          decide (s.fq.reserved = false ∧ s.fq.free < 2) } := by
  have hroom : decide (s.fq.reserved = false ∧ s.fq.free < 2) = !s.hasRoom := by
    cases h : s.hasRoom with
    | true => exact decide_eq_false (State.hasRoom_iff.mp h)
    | false => exact decide_eq_true (not_not.mp fun hn => by simp [State.hasRoom_iff.mpr hn] at h)
  rw [hroom, State.slotMark]
  cases RawFrame.checkPasses r with
  | false => rfl
  | true =>
    rw [Bool.true_and]
    cases RawFrame.asksReply r s.self && !s.hasRoom <;> rfl

/-! ## A frame rejected in its slot -/

theorem State.rejectedInSlot_of_offline {s : State} (r : RawFrame) (h : s.link.state = .offline) :
    s.rejectedInSlot r = s.afterSlot SlotMarks.none := if_pos h

/-- Another party's frame, with no attempt of this node on the bus. -/
theorem State.rejectedInSlot_of_other {s : State} {r : RawFrame} (h : s.link.state ≠ .offline)
    (hsrc : r.source.toNat ≠ s.self) (hsend : s.fq.sending = none) :
    s.rejectedInSlot r = s.slotRejects false (s.slotMark r) := by
  simp only [State.rejectedInSlot, if_neg h, hsrc, decide_false, Bool.false_eq_true, if_false,
    State.attemptLost_of_not_sending hsend]

/-- A frame that this node sends, having dropped out of it. -/
theorem State.rejectedInSlot_of_own {s : State} {r : RawFrame} (h : s.link.state ≠ .offline)
    (hsrc : r.source.toNat = s.self) (hsend : s.fq.sending ≠ none) :
    s.rejectedInSlot r = s.ownRejected (s.slotMark r) := by
  simp only [State.rejectedInSlot, if_neg h, hsrc, decide_true, if_true, State.ownRejected, if_neg hsend]

/-- Settles O46: by whose frame it is and whether an entry is reserved for it. -/
theorem frameRejectedInItsSlot : Obligations.FrameRejectedInItsSlot := by
  intro r s hset full rejected
  have hrejected : rejected = s.afterSlot (s.slotMark r) := by rw [State.slotMark_eq]; rfl
  refine ⟨fun h hsrc hsend => ?_, fun h hsrc hsend hmark => ?_, fun h => ?_⟩
  · have hexec : exec (.frameRejectedInSlot r) s = .next (s.slotRejects false (s.slotMark r)) :=
      congrArg _ (State.rejectedInSlot_of_other h hsrc hsend)
    rw [hrejected, hexec]
    refine ⟨fun hres => congrArg _ (State.slotRejects_of_none _ hres), fun hres hc => ?_⟩
    have hover : s.slotRejects false (s.slotMark r) = (s.afterSlot (s.slotMark r)).slotOver.finish :=
      State.released_eq_slotOver (s := s.afterSlot (s.slotMark r)) hres hc
    refine ⟨congrArg _ hover, fun hrec hp => congrArg _ (hover.trans ?_)⟩
    rw [State.slotOver_of_no_record (s := s.afterSlot (s.slotMark r)) hrec]
    exact State.finish_of_settled_of_not_idle (hset.of_not_pending hset.1 hp rfl rfl) (by decide : (0 : Nat) ≠ 12)
  · refine congrArg Host.Outcome.next ((State.rejectedInSlot_of_own h hsrc hsend).trans (congrArg s.ownRejected ?_))
    rw [State.slotMark_eq, RejectedBy.marks]
    rcases hmark with hp | ha | hf
    · simp [hp]
    · simp [ha]
    · rw [decide_eq_false hf, Bool.and_false]
  · exact congrArg _ (State.rejectedInSlot_of_offline r h)

/-! ## An address clash -/

/-- An entry in transmission of a queue that sends at most one frame is the one it sends (R137). -/
theorem FrameQueue.Sends.of_flight_le_one {q : FrameQueue} {before after : List Entry} {e : Entry}
    (hq : q.entries = before ++ e :: after) (hst : e.status = .inTransmission)
    (h : (q.entries.countP fun x => decide (x.status = .inTransmission)) ≤ 1) : q.Sends before e after := by
  refine ⟨hq, hst, fun x hx => ?_⟩
  rw [hq, List.countP_append, List.countP_cons_of_pos (by simpa using hst)] at h
  have hzero : (before ++ after).countP (fun x => decide (x.status = .inTransmission)) = 0 := by
    rw [List.countP_append]
    omega
  have hne : x.status ≠ .inTransmission := by simpa using List.countP_eq_zero.mp hzero x hx
  cases hs : x.status with
  | queued => rfl
  | inTransmission => exact absurd hs hne

/-- The state of a node whose link an address clash has blocked (R118, R147). -/
def State.clashed (s : State) : State :=
  { s with
    link := { s.link with state := .blocked, listenTimer := none, rejects := 0, idleCount := 0, inFrame := false
                          marks := SlotMarks.none }
    peer := { s.peer with beaconTimer := some s.timing.beacon } }

/-- A clash without an attempt of this node's own (R147). -/
theorem State.clash_of_not_sending {s : State} (h : s.fq.sending = none) (hr : s.fq.reserved = false) :
    s.clash = s.clashed.takeLink.finish := by
  have hq : s.updFq FrameQueue.requeue = s := by rw [State.updFq, FrameQueue.requeue_of_not_sending h]
  rw [State.clash, hq, h]
  exact congrArg (fun u : State => u.takeLink.finish) (State.unreserved_of_none (s := s.clashed) hr)

/-- A clash with an attempt that this node dropped out of, whose notice holds no upgrade (R139, R147). -/
theorem State.clash_of_sending {s : State} {before after : List Entry} {e : Entry} (h : s.fq.Sends before e after)
    (hu : ∀ n ∈ s.mc.notices, e.frame.isHaltFor n.group = true → n.upgrade = none) :
    s.clash = ({ s.clashed with
      fq := { s.fq with entries := before ++ { e with status := .queued } :: after } } : State).unreserved.takeLink.finish := by
  let left : State := { s with fq := { s.fq with entries := before ++ { e with status := .queued } :: after } }
  have hq : s.updFq FrameQueue.requeue = left := by rw [State.updFq, h.requeue]
  have hnothing {g : GroupNo} {k : HaltKind} {c : Cause} {t : Tag} (hf : e.frame = .halt g k c t) :
      left.noticeReturned g = left :=
    State.returned_of_nothing (s := left) (f := .halt g k c t) nofun (hf ▸ hu)
  rw [State.clash, hq]
  simp only [h.sending]
  split
  · rename_i hf
    rw [hnothing hf]
    rfl
  · rfl

/-- A frame bearing this node's address that it does not send (R147). -/
theorem State.takeFrom_clashes {s : State} (ho : s.link.state ≠ .offline) (hsend : s.fq.sending = none)
    (hr : s.fq.reserved = false) (own : OutFrame → Bool) (act : State → State) :
    s.takeFrom s.self own act = s.clashed.takeLink.finish := by
  have hown : s.sends own = false := by rw [State.sends, hsend]
  rw [State.takeFrom, State.released_of_none hr, State.takeHeld, if_neg ho, if_pos rfl, hown]
  exact State.clash_of_not_sending hsend hr

/-- A request bearing this node's address that finds room (R147, R156). -/
theorem State.request_clashes {s : State} (ho : s.link.state ≠ .offline) (hroom : 2 ≤ s.fq.free ∨ s.fq.reserved = true)
    (num : Nat) (k : RequestKind) (act : State → State × Reply) (after : State → State) :
    s.request s.self num k act after = s.clash := by
  simp only [State.request, if_neg ho, if_true, State.hasRoom_of_room hroom, Bool.true_eq_false, if_false]

/-- Settles O47: every command of such a frame comes to the one clash. -/
theorem addressClashBlocksTheLink : Obligations.AddressClashBlocksTheLink := by
  intro num a b d e ms es v w f k h o st tag s requests blocked
  have hrequest : ∀ i ∈ requests, requestHead i = some (s.self, num) := by simp [requests, requestHead]
  have hhearing : ∀ i ∈ [Instr.readyTaken s.self a b, .withdrawTaken s.self a b k, .haltTaken s.self a h k tag,
      .markTaken s.self a b o, .groupScaleTaken s.self a b, .beaconTaken s.self st d, .replyFrameTaken s.self],
      hearingHead i = some s.self := by simp [hearingHead]
  refine ⟨fun ho hsend hfree hres i hi => ?_, fun before after x hok hq hst hu hroom => ?_⟩
  · have hclash : exec i s = .next blocked.takeLink.finish := by
      rcases List.mem_append.mp hi with hi | hi
      · obtain ⟨_, _, _, hexec⟩ := exec_of_requestHead (hrequest i hi)
        rw [hexec, State.request_clashes ho (.inl hfree), State.clash_of_not_sending hsend hres]
        rfl
      · obtain ⟨_, _, hexec⟩ := exec_of_hearingHead (hhearing i hi)
        rw [hexec, State.takeFrom_clashes ho hsend hres]
        rfl
    refine ⟨hclash, fun hset hs => hclash.trans (congrArg _ ?_)⟩
    rw [State.takeLink_finish_of_held (s := blocked) hs hset.1 rfl]
    exact State.fillUrgent_of_none hset.2.2
  · intro left i hi
    have hsends : s.fq.Sends before x after := .of_flight_le_one hq hst hok.link.2.2.1
    have ho : s.link.state ≠ .offline := fun hoff => by simpa [hsends.sending] using hok.link.1 (by simp [hoff])
    obtain ⟨_, _, _, hexec⟩ := exec_of_requestHead (hrequest i hi)
    have hleft : left.unreserved = if s.fq.reserved = true then left.slotOver else left := by
      split
      · rename_i hres
        refine State.unreserved_eq_slotOver (s := left) hres ?_
        have hcount : left.fq.count .reply = s.fq.count .reply := by
          rw [← s.fq.count_requeue, hsends.requeue]
        exact hcount.trans_lt (hok.shares.2 hres).1
      · rename_i hres
        exact State.unreserved_of_none (s := left) (by simpa using hres)
    rw [hexec, State.request_clashes ho hroom, State.clash_of_sending hsends hu, ← hleft]
    rfl

end Sys2Proof.Machine
end

section
/-! The room of a request: the busy mark, and what an event of the node's own leaves of the slot that it falls in (R139, R141,
R156). -/

-- One proof after another: elaborated side by side they need more threads than the check allows.
set_option deprecated.oldSectionVars true

namespace Sys2Proof.Machine

/-- A request of another party that finds no room (R141). -/
theorem State.request_of_full {s : State} {src : Addr} (h : s.hears src) (hf : s.fq.free < 2) (num : Nat) (k : RequestKind)
    (act : State → State × Reply) (after : State → State) :
    s.request src num k act after = s.afterSlot SlotMarks.busy := by
  obtain ⟨ho, hsrc, hsend, hres⟩ := h
  have hroom : s.hasRoom = false := Bool.eq_false_iff.mpr fun hr => State.hasRoom_iff.mp hr ⟨hres, hf⟩
  have hlost : (if src = s.self then s else s.attemptLost) = s :=
    (if_neg hsrc).trans (State.attemptLost_of_not_sending hsend)
  simp only [State.request, if_neg ho, hlost, hroom, if_true, decide_eq_false hsrc]
  exact State.slotRejects_of_none _ hres

/-- A slot that finds no room stands with nothing reserved (R141, R156). -/
theorem State.slotPassed_of_full {s : State}
    (h : s.link.state = .offline ∨ (s.fq.free < 2 ∧ s.fq.reserved = false)) :
    s.slotPassed true = { s with link := { s.link with idleCount := 0, inFrame := true } } := by
  have hno : ¬(s.link.state ≠ .offline ∧ s.hasRoom = true) := fun ⟨ho, hr⟩ =>
    (h.resolve_left ho).elim fun hf hres => State.hasRoom_iff.mp hr ⟨hres, hf⟩
  rw [State.slotPassed, if_pos rfl, if_neg hno]
  rfl

/-! ## What an event leaves of the slot it falls in -/

/-- The frame in transmission, the reservation and the link stay (R137, R156). -/
structure State.KeepsSlot (s t : State) : Prop where
  fq   : s.fq.KeepsFlight t.fq
  link : t.link = s.link

namespace State

variable {s t u : State}

theorem KeepsSlot.of_eq (hf : t.fq = s.fq) (hl : t.link = s.link) : s.KeepsSlot t := ⟨hf ▸ .refl _, hl⟩

theorem KeepsSlot.refl (s : State) : s.KeepsSlot s := .of_eq rfl rfl

theorem KeepsSlot.trans (h : s.KeepsSlot t) (h' : t.KeepsSlot u) : s.KeepsSlot u :=
  ⟨h.fq.trans h'.fq, h'.link.trans h.link⟩

/-- What follows an event on a bus that is not idle begins no attempt (R137). -/
theorem KeepsSlot.finish (h : s.KeepsSlot t) (hi : s.link.idleCount ≠ 12) : s.KeepsSlot t.finish := by
  have hidle : t.link.idleCount ≠ 12 := h.link ▸ hi
  exact h.trans ⟨State.finish_keepsFlight hidle, State.finish_link_of_not_idle hidle⟩

theorem failAnnounced_keepsSlot (c : Cause) (s : State) : s.KeepsSlot (s.failAnnounced c) :=
  ⟨s.failAnnounced_keepsFlight c, by simp⟩

theorem stopMove_keepsSlot (c : Cause) (d : Bool) (s : State) : s.KeepsSlot (s.stopMove c d) :=
  ⟨(s.stopMove_keepsReadies c d).toKeepsFlight, by simp⟩

theorem leadStep_keepsSlot (hi : s.link.idleCount ≠ 12) : s.KeepsSlot s.leadStep := by
  unfold leadStep
  split
  · rename_i st m _ _
    refine KeepsSlot.finish ?_ hi
    obtain ⟨-, -, -, -, hlink, hfq, -⟩ := s.stepLine_frame m
    have hline : s.KeepsSlot ((s.stepLine m).updLead fun l => l.stepped m st.kind) := .of_eq hfq hlink
    have hreach (p : Marker → Bool) (u : State) : u.KeepsSlot (u.reach p) := ⟨(reach_keepsRoom p u).toKeepsFlight, by simp⟩
    have hafter (u : State) : u.KeepsSlot (u.afterStep m) := ⟨(u.afterStep_keeps m).1, (u.afterStep_keeps m).2.1⟩
    exact (hline.trans (hreach _ _)).trans (hafter _)
  · exact .refl s

theorem rollExpires_keepsSlot (hi : s.link.idleCount ≠ 12) : s.KeepsSlot s.rollExpires := by
  have hstopped : s.KeepsSlot (s.updRoll fun r => { r with timer := none }) := .of_eq rfl rfl
  unfold rollExpires
  split
  · exact .refl s
  · dsimp only
    split
    · exact (hstopped.trans (failAnnounced_keepsSlot _ _)).finish hi
    · exact hstopped

theorem gateExpires_keepsSlot (hi : s.link.idleCount ≠ 12) : s.KeepsSlot s.gateExpires := by
  let stopped : State := s.updGate fun g => { g with timer := none }
  have hretired : s.KeepsSlot (stopped.retire .failed (some .gateTimeout)) :=
    ⟨(stopped.retire_keepsReadies _ _).toKeepsFlight, by simp [stopped]⟩
  unfold gateExpires
  split
  · exact .refl s
  · dsimp only
    split
    · exact .of_eq rfl rfl
    · exact hretired.finish hi

theorem silenceExpires_keepsSlot (p : Addr) (hi : s.link.idleCount ≠ 12) : s.KeepsSlot (s.silenceExpires p) := by
  let silent : State := s.updPeerEntry p fun x => { x with timer := none }
  have hset (q : Presence) : s.KeepsSlot (silent.setPresence p q) := ⟨setPresence_keepsFlight p q silent, by simp [silent]⟩
  unfold silenceExpires
  split
  · exact .refl s
  · split
    · exact .refl s
    · exact (hset _).finish hi

theorem limitDelivered_keepsSlot (side : LimitSide) (hi : s.link.idleCount ≠ 12) : s.KeepsSlot (s.limitDelivered side) := by
  unfold limitDelivered
  repeat' split
  · exact (s.failAnnounced_keepsSlot _).finish hi
  · exact (s.stopMove_keepsSlot _ _).finish hi
  all_goals exact .refl s

theorem driveStop_keepsSlot (c : Cause) (hi : s.link.idleCount ≠ 12) : s.KeepsSlot (s.driveStop c) := by
  obtain ⟨hfq, hlink, -⟩ := localStop_keeps c (s.updOut fun o => { o with dren := false })
  unfold driveStop
  split
  · exact .refl s
  · exact KeepsSlot.finish ⟨hfq, hlink⟩ hi

theorem homeDelivered_keepsSlot (hi : s.link.idleCount ≠ 12) : s.KeepsSlot s.homeDelivered := by
  have hseek : s.KeepsSlot s.completeSeek := ⟨s.completeSeek_keepsReadies.toKeepsFlight, by simp⟩
  unfold homeDelivered
  repeat' split
  · exact hseek.finish hi
  all_goals exact .refl s

/-- An input's assertion keeps the slot when its delivery does. -/
theorem assertion_keepsSlot (i : InputName) {deliver : State → State}
    (hd : ∀ u : State, u.link.idleCount ≠ 12 → u.KeepsSlot (deliver u)) (hi : s.link.idleCount ≠ 12) :
    s.KeepsSlot (s.assertion i deliver) := by
  have hreg : s.KeepsSlot (s.register i (s.activeLevel i)) := .of_eq rfl rfl
  unfold assertion
  repeat' split
  · exact .refl s
  · exact hreg
  · exact hreg.trans (hd _ hi)

end State

/-- A command and the same command within the slot of a frame that asks this node for a reply: the event `act`, which keeps
the slot it falls in. -/
def FallsInSlot (within outside : Instr) : Prop :=
  ∃ act : State → State, (∀ s, exec within s = .next (act (s.slotPassed true))) ∧ (∀ s, exec outside s = .next (act s)) ∧
    ∀ s : State, s.link.idleCount ≠ 12 → s.KeepsSlot (act s)

/-- The eight events of a node's own that may fall in a slot. -/
theorem events_fallInSlot (peer : Nat) (side : LimitSide) :
    ∀ c ∈ [(Instr.leadStep true, Instr.leadStep false), (.rollTimeout true, .rollTimeout false),
           (.gateWaitTimerExpires true, .gateWaitTimerExpires false),
           (.silenceTimerExpires peer true, .silenceTimerExpires peer false),
           (.limitAsserted side true, .limitAsserted side false), (.dalmAsserted true, .dalmAsserted false),
           (.stopinAsserted true, .stopinAsserted false), (.homeAsserted true, .homeAsserted false)],
      FallsInSlot c.1 c.2 := by
  intro c hc
  simp only [List.mem_cons, List.not_mem_nil, or_false] at hc
  rcases hc with rfl | rfl | rfl | rfl | rfl | rfl | rfl | rfl
  · exact ⟨_, fun _ => rfl, fun _ => rfl, fun _ => State.leadStep_keepsSlot⟩
  · exact ⟨_, fun _ => rfl, fun _ => rfl, fun _ => State.rollExpires_keepsSlot⟩
  · exact ⟨_, fun _ => rfl, fun _ => rfl, fun _ => State.gateExpires_keepsSlot⟩
  · exact ⟨_, fun _ => rfl, fun _ => rfl, fun _ => State.silenceExpires_keepsSlot peer⟩
  · exact ⟨_, fun _ => rfl, fun _ => rfl, fun _ => State.assertion_keepsSlot _ fun _ => State.limitDelivered_keepsSlot side⟩
  · exact ⟨_, fun _ => rfl, fun _ => rfl, fun _ => State.assertion_keepsSlot _ fun _ => State.driveStop_keepsSlot _⟩
  · exact ⟨_, fun _ => rfl, fun _ => rfl, fun _ => State.assertion_keepsSlot _ fun _ => State.driveStop_keepsSlot _⟩
  · exact ⟨_, fun _ => rfl, fun _ => rfl, fun _ => State.assertion_keepsSlot _ fun _ => State.homeDelivered_keepsSlot⟩

/-- Settles O37: every request goes one way, and every event keeps the slot it falls in. -/
theorem requestsMeetTheBusyMark : Obligations.RequestsMeetTheBusyMark := by
  refine ⟨fun src num s hh hf => ?_, fun s peer src side => ?_⟩
  · intro busy g a b c d e ms es v w f i hi
    have hhead : requestHead i = some (src, num) := by
      revert i
      simp [requestHead]
    obtain ⟨_, _, _, hexec⟩ := exec_of_requestHead hhead
    rw [hexec, State.request_of_full hh hf]
    rfl
  · intro framed c hc
    obtain ⟨act, hwithin, houtside, hkeeps⟩ := events_fallInSlot peer side c hc
    refine ⟨fun hfull => ?_, fun ho hroom => ?_⟩
    · rw [hwithin, houtside, State.slotPassed_of_full hfull]
    · let opened : State := { framed with fq := { s.fq with reserved := true } }
      have hslot : opened.KeepsSlot (act opened) := hkeeps opened (by decide : (0 : Nat) ≠ 12)
      have hstate : (act opened).link.state = s.link.state := by rw [hslot.link]
      refine ⟨act opened, ?_, houtside _, hslot.fq.reserved, hstate ▸ ho, fun ⟨_, hsrc, hsend, _⟩ => ?_⟩
      · rw [hwithin, State.slotPassed_of_room ho hroom]
      · have hself : (act opened).self = s.self := by rw [State.self, hslot.link]; rfl
        exact ⟨hstate ▸ ho, hself ▸ hsrc, (FrameQueue.sending_congr hslot.fq.flight).trans hsend, .inr hslot.fq.reserved⟩

end Sys2Proof.Machine
end

section
/-! A frame read from the bus: the cases in which it is malformed, the command it stands for otherwise, and what it comes to
(R140, R149, R165 to R168). -/

-- One proof after another: elaborated side by side they need more threads than the check allows.
set_option deprecated.oldSectionVars true

namespace Sys2Proof.Machine

/-! ## The codes that are known -/

theorem within_iff {a b n : Nat} : within a b n = true ↔ a ≤ n ∧ n ≤ b := by simp [within]

theorem causeOf_isSome {n : Nat} : (causeOf n).isSome = true ↔ 1 ≤ n ∧ n ≤ 16 := by
  unfold causeOf
  split
  case h_17 => simp only [imp_false, Option.isSome_none, Bool.false_eq_true, false_iff] at *; omega
  all_goals decide

theorem haltKindOf_isSome {n : Nat} : (haltKindOf n).isSome = true ↔ n ≤ 1 := by
  unfold haltKindOf
  split
  case h_3 => simp only [imp_false, Option.isSome_none, Bool.false_eq_true, false_iff] at *; omega
  all_goals decide

theorem markOutcomeOf_isSome {n : Nat} : (markOutcomeOf n).isSome = true ↔ n ≤ 1 := by
  unfold markOutcomeOf
  split
  case h_3 => simp only [imp_false, Option.isSome_none, Bool.false_eq_true, false_iff] at *; omega
  all_goals decide

theorem nodeStateOf_isSome {n : Nat} : (nodeStateOf n).isSome = true ↔ n ≤ 7 := by
  unfold nodeStateOf
  split
  case h_9 => simp only [imp_false, Option.isSome_none, Bool.false_eq_true, false_iff] at *; omega
  all_goals decide

namespace RawFrame

/-! ## The judgements of a frame (R165 to R167) -/

theorem destValid_iff (r : RawFrame) :
    destValid r = true ↔ (r.destKind.toNat = 0 ∧ 1 ≤ r.destNum.toNat ∧ r.destNum.toNat ≤ 30) ∨
      (r.destKind.toNat = 1 ∧ 1 ≤ r.destNum.toNat ∧ r.destNum.toNat ≤ 62) ∨ (r.destKind.toNat = 2 ∧ r.destNum = 0) := by
  have hall : r.destNum.toNat = 0 ↔ r.destNum = 0 := BitVec.toNat_inj (y := 0)
  unfold destValid
  split
  case h_1 h => simp [h, within_iff]
  case h_2 h => simp [h, within_iff]
  case h_3 h => simp [h, hall]
  case h_4 h0 h1 h2 => simpa using ⟨fun h => absurd h h0, fun h => absurd h h1, fun h => absurd h h2⟩

theorem isRequestCode_iff {k : Nat} : isRequestCode k = true ↔ 0x08 ≤ k ∧ k ≤ 0x10 := within_iff

theorem isReplyCode_iff {k : Nat} : isReplyCode k = true ↔ 0x18 ≤ k ∧ k ≤ 0x1B := within_iff

theorem isKnownCode_iff {k : Nat} :
    isKnownCode k = true ↔ (1 ≤ k ∧ k ≤ 6) ∨ (0x08 ≤ k ∧ k ≤ 0x10) ∨ (0x18 ≤ k ∧ k ≤ 0x1B) := by
  simp [isKnownCode, isRequestCode_iff, isReplyCode_iff, within_iff, or_assoc]

theorem destFits_iff {r : RawFrame} (h : isKnownCode r.kind.toNat = true) :
    destFits r = true ↔ (r.kind.toNat ∈ [1, 2, 3] ∧ r.destKind.toNat = 1) ∨ (r.kind.toNat ∈ [4, 6] ∧ r.destKind.toNat = 2) ∨
      (r.kind.toNat = 5 ∧ r.destKind.toNat ≠ 2) ∨
      (((0x08 ≤ r.kind.toNat ∧ r.kind.toNat ≤ 0x10) ∨ (0x18 ≤ r.kind.toNat ∧ r.kind.toNat ≤ 0x1B)) ∧
        r.destKind.toNat = 0) := by
  have hknown := isKnownCode_iff.mp h
  unfold destFits
  split
  case h_7 =>
    simp only [imp_false] at *
    have hrest : (8 ≤ r.kind.toNat ∧ r.kind.toNat ≤ 16) ∨ (24 ≤ r.kind.toNat ∧ r.kind.toNat ≤ 27) := by omega
    simp [*]
  all_goals
    rename_i hk
    simp [hk]

theorem lengthFits_iff (r : RawFrame) :
    let kind := r.kind.toNat
    let n := r.payload.length
    let b := fun i => (r.payload.getD i 0).toNat
    lengthFits r = true ↔
      (kind ∈ [1, 6] ∧ n = 2) ∨ (kind = 2 ∧ n = 3) ∨ (kind = 3 ∧ (n = 2 ∨ n = 4)) ∨ (kind = 4 ∧ n = 4) ∨
      (kind = 5 ∧ n = if r.destKind.toNat = 1 then 1 else 2) ∨ (kind ∈ [0x09, 0x0B, 0x0D, 0x10] ∧ n = 1) ∨
      (kind = 0x0C ∧ n = 2) ∨ (kind = 0x0E ∧ n = 5) ∨
      (kind = 0x0F ∧ ((b 1 = 0 ∧ n = 2) ∨ (b 1 = 1 ∧ n = 4) ∨ (b 1 = 2 ∧ n = 3) ∨ (2 < b 1 ∧ 2 ≤ n))) ∨
      (kind = 0x0A ∧ 14 ≤ n ∧ n = 14 + 2 * (b 13 / 16 % 2) + 4 * (b 13 % 4) + 4 * (b 13 / 4 % 4)) ∨
      (kind = 0x08 ∧ ((b 1 = 1 ∧ n = 7) ∨ (b 1 = 3 ∧ n = 10) ∨ (b 1 = 4 ∧ n = 8) ∨ (b 1 = 5 ∧ n = 11) ∨
        ((b 1 = 0 ∨ 5 < b 1) ∧ 2 ≤ n) ∨
        (b 1 = 2 ∧ ((b 3 ≤ 1 ∧ n = 12) ∨ (b 3 = 2 ∧ 7 ≤ n ∧ n = 7 + 5 * b 6) ∨ (2 < b 3 ∧ 4 ≤ n))))) := by
  intro kind n b
  unfold lengthFits
  simp only [show r.kind.toNat = kind from rfl, show r.payload.length = n from rfl, show byte r = b from rfl]
  generalize kind = k
  split
  case h_5 => split <;> simp_all
  case h_7 =>
    split
    case h_2 =>
      split
      case h_4 =>
        simp only [imp_false] at *
        have : 2 < b 3 := by omega
        simp [*, Nat.not_le.mpr (show 1 < b 3 by omega)]
      all_goals simp [*]
    case h_6 =>
      simp only [imp_false] at *
      have : b 1 = 0 ∨ 5 < b 1 := by omega
      simp [*]
    all_goals simp [*]
  case h_9 =>
    simp only [Bool.and_eq_true, decide_eq_true_eq]
    simp [loadLength]
  case h_14 =>
    split
    case h_4 =>
      simp only [imp_false] at *
      have : 2 < b 1 := by omega
      simp [*]
    all_goals simp [*]
  case h_16 =>
    simp only [imp_false] at *
    simp [*]
  all_goals simp

theorem valuesFit_iff (r : RawFrame) :
    let kind := r.kind.toNat
    let b := fun i => (r.payload.getD i 0).toNat
    valuesFit r = true ↔
      (kind ∈ [1, 2, 4] → 256 * b 0 + b 1 ≠ 0) ∧ (kind = 2 → 1 ≤ b 2 ∧ b 2 ≤ 16) ∧
      (kind = 3 → b 0 ≤ 1 ∧ 1 ≤ b 1 ∧ b 1 ≤ 16 ∧ (r.payload.length = 4 → 256 * b 2 + b 3 ≠ 0)) ∧
      (kind = 4 → b 2 ≤ 1 ∧ b 3 ≤ 1) ∧ (kind = 6 → b 0 ≤ 7 ∧ b 1 ≤ 16) := by
  intro kind b
  have hnum (i : Nat) : num r i 2 = 256 * b i + b (i + 1) := by simp [num, byte, b, Nat.mul_comm]
  unfold valuesFit
  simp only [show r.kind.toNat = kind from rfl, show byte r = b from rfl, hnum]
  generalize kind = k
  split
  case h_1 => simp [imp_iff_not_or]
  case h_2 => simp [causeOf_isSome, imp_iff_not_or]
  case h_3 => simp [haltKindOf_isSome, causeOf_isSome, and_assoc, imp_iff_not_or]
  case h_4 => simp [markOutcomeOf_isSome, and_assoc, imp_iff_not_or]
  case h_5 => simp [nodeStateOf_isSome]
  case h_6 =>
    simp only [imp_false] at *
    simp [*]

/-- The cases of R165 are judged in their order, a reply by the first four only. -/
theorem malformedCase_iff {r : RawFrame} {party addressed known fits reply length values : Prop}
    (hp : within 1 30 r.source.toNat = true ↔ party) (ha : destValid r = true ↔ addressed)
    (hk : isKnownCode r.kind.toNat = true ↔ known) (hf : isKnownCode r.kind.toNat = true → (destFits r = true ↔ fits))
    (hr : isReplyCode r.kind.toNat = true ↔ reply) (hl : lengthFits r = true ↔ length)
    (hv : valuesFit r = true ↔ values) :
    (malformedCase r = some 1 ↔ ¬party) ∧
    (malformedCase r = some 2 ↔ party ∧ ¬addressed) ∧
    (malformedCase r = some 3 ↔ party ∧ addressed ∧ ¬known) ∧
    (malformedCase r = some 4 ↔ party ∧ addressed ∧ known ∧ ¬fits) ∧
    (malformedCase r = some 5 ↔ party ∧ addressed ∧ known ∧ fits ∧ ¬reply ∧ ¬length) ∧
    (malformedCase r = some 6 ↔ party ∧ addressed ∧ known ∧ fits ∧ ¬reply ∧ length ∧ ¬values) ∧
    (malformedCase r = none ↔ party ∧ addressed ∧ known ∧ fits ∧ (reply ∨ (length ∧ values))) := by
  rw [← hp, ← ha, ← hk, ← hr, ← hl, ← hv]
  unfold malformedCase
  cases within 1 30 r.source.toNat
  case false => simp
  cases destValid r
  case false => simp
  cases hknown : isKnownCode r.kind.toNat
  case false => simp
  rw [← hf hknown]
  cases destFits r
  case false => simp
  cases isReplyCode r.kind.toNat
  case true => simp
  cases lengthFits r
  case false => simp
  cases valuesFit r <;> simp

end RawFrame
/-! ## The command that a frame stands for -/

/-- A well-formed frame that asks this node for a reply has the kind of a request (R157, R165). -/
theorem RawFrame.kind_of_asks {r : RawFrame} {self : Addr} (hm : RawFrame.malformedCase r = none)
    (ha : RawFrame.asksReply r self = true) : r.kind.toNat = 5 ∨ (0x08 ≤ r.kind.toNat ∧ r.kind.toNat ≤ 0x10) := by
  simp only [RawFrame.asksReply, Bool.and_eq_true, decide_eq_true_eq, Bool.not_eq_true'] at ha
  obtain ⟨⟨hdest, -⟩, hreply⟩ := ha
  have hreply : ¬(0x18 ≤ r.kind.toNat ∧ r.kind.toNat ≤ 0x1B) := fun h => by simp [RawFrame.isReplyCode_iff.mpr h] at hreply
  obtain ⟨-, -, -, -, -, -, hnone⟩ := RawFrame.malformedCase_iff (r := r) Iff.rfl Iff.rfl Iff.rfl RawFrame.destFits_iff
    Iff.rfl Iff.rfl Iff.rfl
  obtain ⟨-, -, -, hfits, -⟩ := hnone.mp hm
  simpa [hdest, hreply] using hfits

/-- What a request frame is read as, when it is a command, is a request of its source (R157, R166). -/
theorem RawFrame.readRequest_head {r : RawFrame} {i : Instr} {src : Nat}
    (hk : r.kind.toNat = 5 ∨ (0x08 ≤ r.kind.toNat ∧ r.kind.toNat ≤ 0x10))
    (h : RawFrame.readRequest r src = .command i) : requestHead i = some (src, RawFrame.byte r 0) := by
  unfold RawFrame.readRequest at h
  split at h
  case h_2 =>
    unfold RawFrame.readConfig at h
    repeat' split at h
    case h_6 => cases h
    all_goals
      obtain rfl := Reading.command.inj h
      rfl
  case h_9 =>
    unfold RawFrame.readQuery at h
    split at h
    case h_4 => cases h
    all_goals
      obtain rfl := Reading.command.inj h
      rfl
  case h_11 =>
    simp only [imp_false] at *
    omega
  all_goals
    obtain rfl := Reading.command.inj h
    rfl

/-- What a well-formed frame is read as, when it is a command: a request of its source when it asks this node for a reply,
and a frame that asks for none otherwise (R142, R164). -/
theorem RawFrame.read_head {r : RawFrame} {self : Addr} {i : Instr} (h : RawFrame.read r self = .command i) :
    (RawFrame.asksReply r self = true → requestHead i = some (r.source.toNat, RawFrame.byte r 0)) ∧
    (RawFrame.asksReply r self = false → hearingHead i = some r.source.toNat) := by
  unfold RawFrame.read at h
  split at h
  · cases h
  · rename_i hm
    split at h
    · split at h
      · rename_i ha
        exact ⟨fun _ => RawFrame.readRequest_head (RawFrame.kind_of_asks hm ha) h, fun hno => by simp [hno] at ha⟩
      · obtain rfl := Reading.command.inj h
        exact ⟨fun ha => absurd ha ‹_›, fun _ => rfl⟩
    · rename_i hdest
      refine ⟨fun ha => ?_, fun _ => ?_⟩
      · simp [RawFrame.asksReply, hdest] at ha
      · obtain rfl := Reading.command.inj h
        unfold RawFrame.readCoordination
        split <;> rfl

/-! ## What a frame read from the bus comes to -/

theorem State.takeReading_of_requestHead {r : RawFrame} {s : State} {i : Instr} {p : Nat × Nat}
    (h : RawFrame.read r s.self = .command i) (hi : requestHead i = some p) : exec i s = .next (s.takeReading r) := by
  unfold State.takeReading
  rw [h]
  unfold requestHead at hi
  split at hi
  case h_18 => cases hi
  all_goals rfl

theorem State.takeReading_of_hearingHead {r : RawFrame} {s : State} {i : Instr} {src : Nat}
    (h : RawFrame.read r s.self = .command i) (hi : hearingHead i = some src) : exec i s = .next (s.takeReading r) := by
  unfold State.takeReading
  rw [h]
  unfold hearingHead at hi
  split at hi
  case h_8 => cases hi
  all_goals rfl

/-- Another party's frame, with no attempt of this node on the bus, is taken or rejected by this node's mark (R140 to R142). -/
theorem State.receive_of_other {r : RawFrame} {s : State} (ho : s.link.state ≠ .offline) (hsrc : r.source.toNat ≠ s.self)
    (hsend : s.fq.sending = none) :
    s.receive r = if s.slotMark r = SlotMarks.none then s.takeReading r else s.slotRejects false (s.slotMark r) := by
  have hraw : s.sendsRaw r = false := by rw [State.sendsRaw, hsend]
  simp only [State.receive, if_neg ho, hraw, Bool.false_eq_true, if_false, decide_eq_false hsrc,
    State.attemptLost_of_not_sending hsend]

theorem State.slotMark_of_room {r : RawFrame} {s : State} (hp : RawFrame.checkPasses r = true)
    (hr : RawFrame.asksReply r s.self = true → s.hasRoom = true) : s.slotMark r = SlotMarks.none := by
  rw [State.slotMark, hp]
  cases ha : RawFrame.asksReply r s.self with
  | false => rfl
  | true => rw [hr ha]; rfl

theorem State.slotMark_of_full {r : RawFrame} {s : State} (hp : RawFrame.checkPasses r = true)
    (ha : RawFrame.asksReply r s.self = true) (hr : s.hasRoom = false) : s.slotMark r = SlotMarks.busy := by
  rw [State.slotMark, hp, ha, hr]
  rfl

/-- A frame whose check passes and that finds room, if it asks this node for a reply, is taken (R140 to R142). -/
theorem State.receive_of_room {r : RawFrame} {s : State} (ho : s.link.state ≠ .offline) (hsrc : r.source.toNat ≠ s.self)
    (hsend : s.fq.sending = none) (hp : RawFrame.checkPasses r = true)
    (hr : RawFrame.asksReply r s.self = true → s.hasRoom = true) : s.receive r = s.takeReading r := by
  rw [State.receive_of_other ho hsrc hsend, if_pos (State.slotMark_of_room hp hr)]

/-- A malformed frame is taken as one of another party's (R149). -/
theorem State.takeReading_of_malformed {r : RawFrame} {s : State} {n : Nat} (ho : s.link.state ≠ .offline)
    (hsrc : r.source.toNat ≠ s.self) (hsend : s.fq.sending = none) (hm : RawFrame.malformedCase r = some n) :
    s.takeReading r = ((s.afterSlot SlotMarks.none).malformed r).released := by
  have hread : RawFrame.read r s.self = .malformed n := by rw [RawFrame.read, hm]
  rw [State.takeReading, hread]
  simp only [State.takeHeld, if_neg ho, if_neg hsrc, State.attemptLost_of_not_sending hsend]

/-- A malformed frame that is not answered (R149). -/
theorem State.malformed_ignored {r : RawFrame} {s : State} (h : RawFrame.isAnswered r s.self = false) :
    (s.afterSlot SlotMarks.none).malformed r = s.afterFrame r.source.toNat := by
  rw [State.malformed]
  exact if_neg (Bool.eq_false_iff.mp h)

/-- A malformed frame that is answered (R149, R168). -/
theorem State.malformed_answered {r : RawFrame} {s : State} (h : RawFrame.isAnswered r s.self = true) :
    (s.afterSlot SlotMarks.none).malformed r =
      s.answered r.source.toNat (.nak r.source.toNat (RawFrame.byte r 0) r.kind.toNat .badFrame) := by
  rw [State.malformed]
  exact if_pos h

/-- A frame that finds room for a reply is taken, whether it asks for one or not (R141,
R166). -/
theorem State.receive_of_request {r : RawFrame} {s : State} (h : s.takesRequest r.source.toNat)
    (hp : RawFrame.checkPasses r = true) : s.receive r = s.takeReading r := by
  obtain ⟨ho, hsrc, hsend, hroom⟩ := h
  exact State.receive_of_room ho hsrc hsend hp fun _ => State.hasRoom_of_room hroom

/-- A malformed frame taken by a node that has room for its answer (R149, R168). -/
theorem State.receive_of_malformed {r : RawFrame} {s : State} {n : Nat} (h : s.takesRequest r.source.toNat)
    (hp : RawFrame.checkPasses r = true) (hm : RawFrame.malformedCase r = some n) :
    s.receive r = ((s.afterSlot SlotMarks.none).malformed r).released := by
  rw [State.receive_of_request h hp, State.takeReading_of_malformed h.1 h.2.1 h.2.2.1 hm]

/-- A well-formed frame acts as the command it stands for (R142, R166). -/
theorem State.receive_of_command {r : RawFrame} {s : State} {i : Instr} (ho : s.link.state ≠ .offline)
    (hsrc : r.source.toNat ≠ s.self) (hsend : s.fq.sending = none) (hp : RawFrame.checkPasses r = true)
    (h : RawFrame.read r s.self = .command i) : exec i s = .next (s.receive r) := by
  obtain ⟨hasks, hhears⟩ := RawFrame.read_head h
  cases ha : RawFrame.asksReply r s.self with
  | false =>
    rw [State.receive_of_room ho hsrc hsend hp (by simp [ha])]
    exact State.takeReading_of_hearingHead h (hhears ha)
  | true =>
    cases hr : s.hasRoom with
    | true =>
      rw [State.receive_of_room ho hsrc hsend hp fun _ => hr]
      exact State.takeReading_of_requestHead h (hasks ha)
    | false =>
      obtain ⟨hres, hfree⟩ : s.fq.reserved = false ∧ s.fq.free < 2 :=
        not_not.mp fun hn => by simp [State.hasRoom_iff.mpr hn] at hr
      obtain ⟨_, _, _, hexec⟩ := exec_of_requestHead (hasks ha)
      rw [hexec, State.request_of_full ⟨ho, hsrc, hsend, hres⟩ hfree, State.receive_of_other ho hsrc hsend,
        State.slotMark_of_full hp ha hr, if_neg (by decide), State.slotRejects_of_none _ hres]

/-- A request of an unknown record type or subject is read as such (R123, R159, R166). -/
theorem RawFrame.read_of_asks {r : RawFrame} {self : Addr} (hm : RawFrame.malformedCase r = none)
    (ha : RawFrame.asksReply r self = true) : RawFrame.read r self = RawFrame.readRequest r r.source.toNat := by
  have hdest : r.destKind.toNat = 0 := by
    simp only [RawFrame.asksReply, Bool.and_eq_true, decide_eq_true_eq] at ha
    exact ha.1.1
  rw [RawFrame.read, hm]
  simp only [if_pos hdest, if_pos ha]

theorem RawFrame.readConfig_unknown {r : RawFrame} (h : RawFrame.byte r 1 = 0 ∨ 5 < RawFrame.byte r 1) (src num : Nat) :
    RawFrame.readConfig r src num = .unknownRecord src num := by
  unfold RawFrame.readConfig
  split
  case h_6 => rfl
  all_goals omega

theorem RawFrame.readQuery_unknown {r : RawFrame} (h : 2 < RawFrame.byte r 1) (src num : Nat) :
    RawFrame.readQuery r src num = .unknownSubject src num := by
  unfold RawFrame.readQuery
  split
  case h_4 => rfl
  all_goals omega

theorem doConfigUnknown_refused {s : State} {src : Addr} (h : s.takesRequest src) (num : Nat) :
    doConfigUnknown src num s =
      s.refused src num .config (if s.store.committed = true then .badState else .badField) := by
  refine State.request_refused h num .config _ ?_
  rw [State.configure, (s.opened_fields src).1]
  cases s.store.committed <;> rfl

theorem doQueryUnknown_refused {s : State} {src : Addr} (h : s.takesRequest src) (num : Nat) :
    doQueryUnknown src num s = s.refused src num .query .badField :=
  State.request_refused h num .query _ rfl

/-- A malformed frame that asks this node for a reply, from a source that no reply can be addressed to, leaves the entry
reserved for it released (R149, R156). -/
theorem State.receive_of_stranger {r : RawFrame} {s : State} {n : Nat} (h : s.takesRequest r.source.toNat)
    (hp : RawFrame.checkPasses r = true) (hm : RawFrame.malformedCase r = some n)
    (hparty : ¬(1 ≤ r.source.toNat ∧ r.source.toNat ≤ 30)) (hok : s.ok) :
    let heard := s.afterFrame r.source.toNat
    (s.fq.reserved = false → s.receive r = heard) ∧
    (s.fq.reserved = true → s.receive r = heard.slotOver.finish ∧
      (s.mc.record = none → s.mc.state ≠ .pending →
        s.receive r = { heard with fq := { s.fq with reserved := false } })) := by
  intro heard
  have hno : RawFrame.isAnswered r s.self = false := by
    rw [RawFrame.isAnswered, Bool.eq_false_iff.mpr fun h => hparty (within_iff.mp h), Bool.and_false]
  have hreceive : s.receive r = heard.released := by
    rw [State.receive_of_malformed h hp hm, State.malformed_ignored hno]
  refine ⟨fun hres => hreceive.trans (State.released_of_none hres), fun hres => ?_⟩
  have hover := hreceive.trans (State.released_eq_slotOver (s := heard) hres (hok.shares.2 hres).1)
  refine ⟨hover, fun hrec hpend => hover.trans ?_⟩
  rw [State.slotOver_of_no_record (s := heard) hrec]
  exact State.finish_of_settled_of_not_idle (hok.settled.of_not_pending hok.settled.1 hpend rfl rfl)
    (by decide : (0 : Nat) ≠ 12)

/-- Settles O45: by what the frame is read as, and the cases of R165 in their order. -/
theorem malformedFrameAnswered : Obligations.MalformedFrameAnswered := by
  refine ⟨fun r s => ?_, fun r => ?_⟩
  · intro c src
    refine ⟨fun n hp hm => ⟨fun hh ha => ?_, fun ht ha => ⟨fun hparty => ?_, fun hparty hok => ?_⟩⟩,
      fun hp hm ha ht => ?_, fun i ho hsrc hsend hp h => ?_, fun hh hp => ?_⟩
    · obtain ⟨ho, hsrc, hsend, hres⟩ := hh
      have hno : RawFrame.isAnswered r s.self = false := by rw [RawFrame.isAnswered, ha, Bool.false_and]
      refine congrArg Host.Outcome.next ?_
      rw [State.receive_of_room ho hsrc hsend hp (by simp [ha]), State.takeReading_of_malformed ho hsrc hsend hm,
        State.malformed_ignored hno]
      exact State.released_of_none hres
    · have hyes : RawFrame.isAnswered r s.self = true := by rw [RawFrame.isAnswered, ha, within_iff.mpr hparty]; rfl
      refine congrArg Host.Outcome.next ?_
      rw [State.receive_of_malformed ht hp hm, State.malformed_answered hyes]
      exact State.released_of_none rfl
    · obtain ⟨hfree, hreserved⟩ := State.receive_of_stranger ht hp hm hparty hok
      refine ⟨fun hres => congrArg _ (hfree hres), fun hres => ?_⟩
      obtain ⟨hover, hstill⟩ := hreserved hres
      exact ⟨congrArg _ hover, fun hrec hpend => congrArg _ (hstill hrec hpend)⟩
    · intro num code
      have hreceive := State.receive_of_request ht hp
      have hread := RawFrame.read_of_asks hm ha
      refine ⟨fun hk hcode => congrArg Host.Outcome.next ?_, fun hk hcode => congrArg Host.Outcome.next ?_⟩
      · have hunknown : RawFrame.readRequest r src = .unknownRecord src num := by
          rw [RawFrame.readRequest, hk]
          exact RawFrame.readConfig_unknown hcode src num
        rw [hreceive, State.takeReading, hread, hunknown]
        exact doConfigUnknown_refused ht num
      · have hunknown : RawFrame.readRequest r src = .unknownSubject src num := by
          rw [RawFrame.readRequest, hk]
          exact RawFrame.readQuery_unknown hcode src num
        rw [hreceive, State.takeReading, hread, hunknown]
        exact doQueryUnknown_refused ht num
    · exact (State.receive_of_command ho hsrc hsend hp h).symm
    · obtain ⟨ho, hsrc, hsend, hres⟩ := hh
      have hmark : s.slotMark r = SlotMarks.reject := by rw [State.slotMark, hp]; rfl
      refine congrArg Host.Outcome.next ?_
      rw [State.receive_of_other ho hsrc hsend, hmark, if_neg (by decide), State.slotRejects_of_none _ hres]
      rfl
  · exact RawFrame.malformedCase_iff within_iff (RawFrame.destValid_iff r) RawFrame.isKnownCode_iff
      RawFrame.destFits_iff RawFrame.isReplyCode_iff (RawFrame.lengthFits_iff r) (RawFrame.valuesFit_iff r)

end Sys2Proof.Machine
end

section
/-! A frame bit by bit on the bus, and the frames this node sends as every node reads them (R135, R162 to R167). -/

-- One proof after another: elaborated side by side they need more threads than the check allows.
set_option deprecated.oldSectionVars true

namespace Sys2Proof.Machine

/-! ## The bits of a number (R162) -/

theorem msbFirst_eq {w : Nat} (x : BitVec w) :
    msbFirst x = (List.range w).map fun i => x.toNat.testBit (w - 1 - i) := by
  refine List.map_congr_left fun i hi => ?_
  rw [BitVec.getMsbD_eq_getLsbD, BitVec.testBit_toNat, decide_eq_true (List.mem_range.mp hi), Bool.true_and]

@[simp] theorem length_msbFirst {w : Nat} (x : BitVec w) : (msbFirst x).length = w := by simp [msbFirst]

theorem ofMsbFirst_concat (bs : List Bool) (b : Bool) : ofMsbFirst (bs ++ [b]) = 2 * ofMsbFirst bs + b.toNat := by
  simp [ofMsbFirst]

/-- The `w` low bits of a number, the most significant first, are that number below `2 ^ w` (R162). -/
theorem ofMsbFirst_testBits (w n : Nat) :
    ofMsbFirst ((List.range w).map fun i => n.testBit (w - 1 - i)) = n % 2 ^ w := by
  induction w generalizing n with
  | zero => simp [ofMsbFirst, Nat.mod_one]
  | succ w ih =>
    have hhigh : (List.range w).map (fun i => n.testBit (w + 1 - 1 - i)) =
        (List.range w).map fun i => (n / 2).testBit (w - 1 - i) := by
      refine List.map_congr_left fun i hi => ?_
      have hlt : i < w := List.mem_range.mp hi
      rw [← Nat.testBit_succ]
      congr 1
      omega
    have hlow : (n.testBit (w + 1 - 1 - w)).toNat = n % 2 := by
      rw [show w + 1 - 1 - w = 0 by omega, Nat.testBit_zero]
      rcases Nat.mod_two_eq_zero_or_one n with h | h <;> simp [h]
    rw [List.range_succ, List.map_append, List.map_singleton, ofMsbFirst_concat, hhigh, ih, hlow, Nat.pow_succ',
      Nat.mod_mul]
    omega

theorem ofMsbFirst_msbFirst {w : Nat} (x : BitVec w) : ofMsbFirst (msbFirst x) = x.toNat := by
  rw [msbFirst_eq, ofMsbFirst_testBits, Nat.mod_eq_of_lt x.isLt]

/-- A field read where it begins is the number sent there, and what was sent after it stands where it ends (R162). -/
theorem field_read {w n m : Nat} {x : BitVec w} {bits after : List Bool} (h : bits.drop n = msbFirst x ++ after)
    (hm : n + w = m) : ofMsbFirst ((bits.drop n).take w) = x.toNat ∧ bits.drop m = after := by
  subst hm
  rw [← List.drop_drop, h, List.take_left' (length_msbFirst x), List.drop_left' (length_msbFirst x)]
  exact ⟨ofMsbFirst_msbFirst x, rfl⟩

/-- The bytes read are those sent (R162). -/
theorem bytesOf_flatMap (bs : List Byte) (after : List Bool) : bytesOf bs.length (bs.flatMap msbFirst ++ after) = bs := by
  induction bs with
  | nil => rfl
  | cons b bs ih =>
    rw [List.flatMap_cons, List.append_assoc, List.length_cons, bytesOf, List.take_left' (length_msbFirst b),
      List.drop_left' (length_msbFirst b), ih, ofMsbFirst_msbFirst, BitVec.ofNat_toNat, BitVec.setWidth_eq]

theorem length_flatMap_msbFirst (bs : List Byte) : (bs.flatMap msbFirst).length = 8 * bs.length := by
  induction bs with
  | nil => rfl
  | cons b bs ih =>
    rw [List.flatMap_cons, List.length_append, ih, length_msbFirst, List.length_cons]
    omega

/-! ## A frame on the bus (R135, R162) -/

theorem map_bitLevel_msbFirst {w : Nat} (x : BitVec w) :
    (msbFirst x).map bitLevel =
      (List.range w).map fun i => if x.toNat.testBit (w - 1 - i) = true then BusLevel.recessive else .dominant := by
  rw [msbFirst_eq, List.map_map]
  rfl

theorem bit_bitLevel (b : Bool) : (bitLevel b).bit = b := by cases b <;> rfl

theorem RawFrame.length_onBus (r : RawFrame) (m : SlotMarks) : (RawFrame.onBus r m).length = 46 + 8 * r.payload.length := by
  simp only [RawFrame.onBus, RawFrame.fieldBits, RawFrame.checkedBits, List.length_append, List.length_cons, List.length_map,
    List.length_nil, length_msbFirst, length_flatMap_msbFirst]
  omega

/-- The bits that follow the start mark on the bus (R162). -/
theorem RawFrame.bits_onBus (r : RawFrame) (m : SlotMarks) :
    ∃ slot, (((RawFrame.onBus r m).drop 1).map BusLevel.bit).drop 0 =
      msbFirst r.cls ++ (msbFirst r.source ++ (msbFirst r.destKind ++ (msbFirst r.destNum ++ (msbFirst r.kind ++
        (msbFirst r.len ++ (r.payload.flatMap msbFirst ++ (msbFirst r.check ++ slot))))))) := by
  refine ⟨[markLevel m.checkReject, markLevel m.addresseeBusy, .recessive].map BusLevel.bit, ?_⟩
  simp only [RawFrame.onBus, RawFrame.fieldBits, RawFrame.checkedBits, List.cons_append, List.drop_succ_cons, List.drop_zero,
    List.map_append, List.map_map, List.append_assoc, Function.comp_def, bit_bitLevel, List.map_id']

/-- A listener reads from the bus the frame that was sent, field after field (R162). -/
theorem RawFrame.ofBus_onBus {r : RawFrame} (m : SlotMarks) (h : r.payload.length = min r.len.toNat 32) :
    RawFrame.ofBus (RawFrame.onBus r m) = r := by
  obtain ⟨slot, hbits⟩ := RawFrame.bits_onBus r m
  obtain ⟨hcls, hbits⟩ := field_read (m := 2) hbits rfl
  obtain ⟨hsource, hbits⟩ := field_read (m := 7) hbits rfl
  obtain ⟨hdestKind, hbits⟩ := field_read (m := 9) hbits rfl
  obtain ⟨hdestNum, hbits⟩ := field_read (m := 15) hbits rfl
  obtain ⟨hkind, hbits⟩ := field_read (m := 20) hbits rfl
  obtain ⟨hlen, hbits⟩ := field_read (m := 26) hbits rfl
  have hpayload : bytesOf r.payload.length ((((RawFrame.onBus r m).drop 1).map BusLevel.bit).drop 26) = r.payload := by
    rw [hbits, bytesOf_flatMap]
  have hcheck : (((RawFrame.onBus r m).drop 1).map BusLevel.bit).drop (26 + 8 * r.payload.length) =
      msbFirst r.check ++ slot := by
    rw [← List.drop_drop, hbits, List.drop_left' (length_flatMap_msbFirst r.payload)]
  obtain ⟨hcheck, -⟩ := field_read hcheck rfl
  unfold RawFrame.ofBus
  simp only [hcls, hsource, hdestKind, hdestNum, hkind, hlen, ← h, hpayload, hcheck, BitVec.ofNat_toNat, BitVec.setWidth_eq]

/-! ## The bytes of a number (R163) -/

theorem numBytes_one (n : Nat) : numBytes 1 n = [BitVec.ofNat 8 n] := by simp [numBytes]

theorem numBytes_two (n : Nat) : numBytes 2 n = [BitVec.ofNat 8 (n / 256), BitVec.ofNat 8 n] := by simp [numBytes]

@[simp] theorem length_numBytes (k n : Nat) : (numBytes k n).length = k := by
  induction k with
  | zero => rfl
  | succ k ih => rw [numBytes, List.length_cons, ih]

@[simp] theorem length_intBytes (k : Nat) (n : Int) : (intBytes k n).length = k := length_numBytes k _

/-- A byte read at its place is the number sent there (R163). -/
theorem RawFrame.byte_of_payload {r : RawFrame} {before after : List Byte} {n i : Nat}
    (hp : r.payload = before ++ (numBytes 1 n ++ after)) (hi : before.length = i) (hn : n < 256) : RawFrame.byte r i = n := by
  subst hi
  rw [RawFrame.byte, hp, List.getD_append_right _ _ _ _ le_rfl, Nat.sub_self, numBytes_one]
  exact Nat.mod_eq_of_lt hn

/-- A two-byte number read at its place is the one sent there (R163). -/
theorem RawFrame.num_of_payload {r : RawFrame} {before after : List Byte} {n i : Nat}
    (hp : r.payload = before ++ (numBytes 2 n ++ after)) (hi : before.length = i) (hn : n ≤ 65535) :
    RawFrame.num r i 2 = n := by
  subst hi
  have hhigh : RawFrame.byte r before.length = n / 256 := by
    rw [RawFrame.byte, hp, List.getD_append_right _ _ _ _ le_rfl, Nat.sub_self, numBytes_two]
    exact Nat.mod_eq_of_lt (show n / 256 < 256 by omega)
  have hlow : RawFrame.byte r (before.length + 1) = n % 256 := by
    rw [RawFrame.byte, hp, List.getD_append_right _ _ _ _ (Nat.le_succ _), Nat.succ_sub (le_refl _), Nat.sub_self,
      numBytes_two]
    rfl
  simp only [RawFrame.num, hhigh, hlow, Nat.pow_one, Nat.pow_zero]
  omega

/-! ## The codes of R163 read back -/

theorem causeOf_causeCode (c : Cause) : causeOf (causeCode c) = some c := by cases c <;> rfl

theorem haltKindOf_haltKindCode (k : HaltKind) : haltKindOf (haltKindCode k) = some k := by cases k <;> rfl

theorem markOutcomeOf_markOutcomeCode (o : MarkOutcome) : markOutcomeOf (markOutcomeCode o) = some o := by cases o <;> rfl

theorem nodeStateOf_nodeStateCode (st : NodeState) : nodeStateOf (nodeStateCode st) = some st := by cases st <;> rfl

/-- A cause's code is a byte. -/
theorem causeCode_lt (c : Cause) : causeCode c < 256 := by cases c <;> decide

theorem haltKindCode_lt (k : HaltKind) : haltKindCode k < 256 := by cases k <;> decide

theorem markOutcomeCode_lt (o : MarkOutcome) : markOutcomeCode o < 256 := by cases o <;> decide

theorem nodeStateCode_lt (st : NodeState) : nodeStateCode st < 256 := by cases st <;> decide

/-! ## The frames this node sends (R164) -/

theorem RawFrame.sealed_check (r : RawFrame) :
    RawFrame.computedCheck (RawFrame.sealed r) = (RawFrame.sealed r).check := by
  simp only [RawFrame.computedCheck, RawFrame.checkedBits, RawFrame.sealed]

namespace OutFrame

variable {self : Addr}

theorem raw_source (f : OutFrame) (h : self ≤ 30) : (f.raw self).source.toNat = self :=
  Nat.mod_eq_of_lt (h.trans_lt (by decide))

theorem raw_destKind (f : OutFrame) : (f.raw self).destKind.toNat = f.dest.1 := by cases f <;> rfl

theorem raw_destNum (f : OutFrame) (h : f.dest.2 ≤ 62) : (f.raw self).destNum.toNat = f.dest.2 :=
  Nat.mod_eq_of_lt (h.trans_lt (by decide))

theorem raw_kind (f : OutFrame) : (f.raw self).kind.toNat = f.kindCode := by cases f <;> rfl

theorem raw_payload (f : OutFrame) : (f.raw self).payload = f.payload := rfl

/-- The check of a frame as it is sent passes (R140, R162). -/
theorem raw_checkPasses (f : OutFrame) (h : f.payload.length ≤ 32) : RawFrame.checkPasses (f.raw self) = true := by
  have hlen : (f.raw self).len.toNat = f.payload.length := Nat.mod_eq_of_lt (h.trans_lt (by decide))
  have hcheck : RawFrame.computedCheck (f.raw self) = (f.raw self).check := RawFrame.sealed_check _
  rw [RawFrame.checkPasses, hlen, raw_payload, decide_eq_true h, decide_eq_true rfl, decide_eq_true hcheck]
  rfl

theorem isKnownCode_kindCode (f : OutFrame) : isKnownCode f.kindCode = true := by cases f <;> rfl

theorem raw_destFits (f : OutFrame) : RawFrame.destFits (f.raw self) = true := by
  unfold RawFrame.destFits
  rw [raw_kind, raw_destKind]
  cases f <;> rfl

/-- A frame as it is sent, for a destination there is, is malformed only by its payload (R165). -/
theorem raw_malformedCase (f : OutFrame) (h1 : 1 ≤ self) (h30 : self ≤ 30) (hd : RawFrame.destValid (f.raw self) = true)
    (hp : isReplyCode f.kindCode = true ∨
      (RawFrame.lengthFits (f.raw self) = true ∧ RawFrame.valuesFit (f.raw self) = true)) :
    RawFrame.malformedCase (f.raw self) = none := by
  obtain ⟨-, -, -, -, -, -, hnone⟩ := RawFrame.malformedCase_iff (r := f.raw self) Iff.rfl Iff.rfl Iff.rfl
    RawFrame.destFits_iff Iff.rfl Iff.rfl Iff.rfl
  rw [raw_kind] at hnone
  refine hnone.mpr ⟨?_, hd, f.isKnownCode_kindCode, ?_, hp⟩
  · rw [raw_source f h30]
    exact within_iff.mpr ⟨h1, h30⟩
  · have hknown : isKnownCode (f.raw self).kind.toNat = true := by rw [raw_kind, isKnownCode_kindCode]
    have hfits := (RawFrame.destFits_iff hknown).mp f.raw_destFits
    rwa [raw_kind] at hfits

/-- A group's frame is sent to a group there is, and every node's to all. -/
theorem raw_destValid_group (f : OutFrame) {g : GroupNo} (hd : f.dest = (1, g)) (h1 : 1 ≤ g) (h62 : g ≤ 62) :
    RawFrame.destValid (f.raw self) = true := by
  have hnum : (f.raw self).destNum.toNat = g := by rw [raw_destNum f (by rw [hd]; exact h62), hd]
  unfold RawFrame.destValid
  rw [raw_destKind, hd, hnum]
  exact within_iff.mpr ⟨h1, h62⟩

theorem raw_destValid_all (f : OutFrame) (hd : f.dest = (2, 0)) : RawFrame.destValid (f.raw self) = true := by
  have hnum : (f.raw self).destNum.toNat = 0 := by rw [raw_destNum f (by simp [hd]), hd]
  unfold RawFrame.destValid
  rw [raw_destKind, hd, hnum]
  rfl

theorem raw_destValid_node (f : OutFrame) {a : Addr} (hd : f.dest = (0, a)) (h1 : 1 ≤ a) (h30 : a ≤ 30) :
    RawFrame.destValid (f.raw self) = true := by
  have hnum : (f.raw self).destNum.toNat = a := by rw [raw_destNum f (by rw [hd]; exact h30.trans (by decide)), hd]
  unfold RawFrame.destValid
  rw [raw_destKind, hd, hnum]
  exact within_iff.mpr ⟨h1, h30⟩

/-- A frame as it is sent is read back at a node as a command: its check passes, and it is read as it (R140, R165). -/
def ReadsAs (f : OutFrame) (self other : Addr) (i : Instr) : Prop :=
  RawFrame.checkPasses (f.raw self) = true ∧ RawFrame.read (f.raw self) other = .command i

/-- A reply acts at the Peer Table only (R142). -/
theorem reply_readsAs (f : OutFrame) {a : Addr} (hd : f.dest = (0, a)) (hk : isReplyCode f.kindCode = true)
    (hlen : f.payload.length ≤ 32) (h1 : 1 ≤ self) (h30 : self ≤ 30) (ha1 : 1 ≤ a) (ha30 : a ≤ 30) (other : Addr) :
    f.ReadsAs self other (.replyFrameTaken self) := by
  have hasks : RawFrame.asksReply (f.raw self) other = false := by
    rw [RawFrame.asksReply, raw_kind, hk, Bool.not_true, Bool.and_false]
  refine ⟨f.raw_checkPasses hlen, ?_⟩
  rw [RawFrame.read, f.raw_malformedCase h1 h30 (f.raw_destValid_node hd ha1 ha30) (.inl hk)]
  simp only [raw_destKind, hd, if_true, hasks, Bool.false_eq_true, if_false, raw_source f h30]

/-- A frame of coordination is read as the command of its take (R164, R167). -/
theorem coordination_readsAs (f : OutFrame) (hd : f.dest.1 ≠ 0) (hlen : f.payload.length ≤ 32) (h1 : 1 ≤ self)
    (h30 : self ≤ 30) (hv : RawFrame.destValid (f.raw self) = true) (hl : RawFrame.lengthFits (f.raw self) = true)
    (hvalues : RawFrame.valuesFit (f.raw self) = true) (other : Addr) :
    f.ReadsAs self other (RawFrame.readCoordination (f.raw self) self) := by
  refine ⟨f.raw_checkPasses hlen, ?_⟩
  rw [RawFrame.read, f.raw_malformedCase h1 h30 hv (.inr ⟨hl, hvalues⟩)]
  simp only [raw_destKind, if_neg hd, raw_source f h30]

/-! ## The frames of coordination (R164, R167) -/

section

variable {g t : Nat}

theorem ready_readsAs (h1 : 1 ≤ self) (h30 : self ≤ 30) (hg1 : 1 ≤ g) (hg62 : g ≤ 62) (ht1 : 1 ≤ t) (ht : t ≤ 65535)
    (other : Addr) : (ready g t).ReadsAs self other (.readyTaken self g t) := by
  let r := (ready g t).raw self
  have hkind : r.kind.toNat = 1 := raw_kind _
  have hgroup : r.destNum.toNat = g := raw_destNum _ hg62
  have htag : RawFrame.num r 0 2 = t := RawFrame.num_of_payload (before := []) (after := []) rfl rfl ht
  have hlength : RawFrame.lengthFits r = true := by rw [RawFrame.lengthFits, hkind]; rfl
  have hvalues : RawFrame.valuesFit r = true := by
    rw [RawFrame.valuesFit, hkind]
    simp only [htag]
    exact decide_eq_true (by omega)
  have hread := (ready g t).coordination_readsAs Nat.one_ne_zero (by simp [payload]) h1 h30
    (raw_destValid_group _ rfl hg1 hg62) hlength hvalues other
  rwa [RawFrame.readCoordination, hkind, hgroup, htag] at hread

theorem withdraw_readsAs (h1 : 1 ≤ self) (h30 : self ≤ 30) (hg1 : 1 ≤ g) (hg62 : g ≤ 62) (ht1 : 1 ≤ t) (ht : t ≤ 65535)
    (c : Cause) (other : Addr) : (withdraw g t c).ReadsAs self other (.withdrawTaken self g t c) := by
  let r := (withdraw g t c).raw self
  have hkind : r.kind.toNat = 2 := raw_kind _
  have hgroup : r.destNum.toNat = g := raw_destNum _ hg62
  have htag : RawFrame.num r 0 2 = t :=
    RawFrame.num_of_payload (before := []) (after := numBytes 1 (causeCode c)) rfl rfl ht
  have hcause : RawFrame.byte r 2 = causeCode c :=
    RawFrame.byte_of_payload (before := numBytes 2 t) (after := []) rfl (length_numBytes 2 t) (causeCode_lt c)
  have hlength : RawFrame.lengthFits r = true := by rw [RawFrame.lengthFits, hkind]; rfl
  have hvalues : RawFrame.valuesFit r = true := by
    rw [RawFrame.valuesFit, hkind]
    simp only [htag, hcause, causeOf_causeCode, Option.isSome_some, Bool.and_true]
    exact decide_eq_true (by omega)
  have hread := (withdraw g t c).coordination_readsAs Nat.one_ne_zero (by simp [payload]) h1 h30
    (raw_destValid_group _ rfl hg1 hg62) hlength hvalues other
  rwa [RawFrame.readCoordination, hkind, hgroup, htag, hcause, causeOf_causeCode] at hread

theorem halt_readsAs (h1 : 1 ≤ self) (h30 : self ≤ 30) (hg1 : 1 ≤ g) (hg62 : g ≤ 62) (ht1 : 1 ≤ t) (ht : t ≤ 65535)
    (k : HaltKind) (c : Cause) (other : Addr) : (halt g k c t).ReadsAs self other (.haltTaken self g k c (some t)) := by
  let r := (halt g k c t).raw self
  have hkind : r.kind.toNat = 3 := raw_kind _
  have hgroup : r.destNum.toNat = g := raw_destNum _ hg62
  have hhalt : RawFrame.byte r 0 = haltKindCode k :=
    RawFrame.byte_of_payload (before := []) (after := numBytes 1 (causeCode c) ++ numBytes 2 t)
      (by simp [r, raw_payload, payload]) rfl (haltKindCode_lt k)
  have hcause : RawFrame.byte r 1 = causeCode c :=
    RawFrame.byte_of_payload (before := numBytes 1 (haltKindCode k)) (after := numBytes 2 t)
      (by simp [r, raw_payload, payload]) (length_numBytes 1 _) (causeCode_lt c)
  have htag : RawFrame.num r 2 2 = t :=
    RawFrame.num_of_payload (before := numBytes 1 (haltKindCode k) ++ numBytes 1 (causeCode c)) (after := [])
      (by simp [r, raw_payload, payload]) (by simp) ht
  have hlen : r.payload.length = 4 := rfl
  have hlength : RawFrame.lengthFits r = true := by rw [RawFrame.lengthFits, hkind]; rfl
  have hvalues : RawFrame.valuesFit r = true := by
    rw [RawFrame.valuesFit, hkind]
    simp only [hhalt, hcause, htag, haltKindOf_haltKindCode, causeOf_causeCode, Option.isSome_some, Bool.true_and]
    rw [decide_eq_true (show t ≠ 0 by omega), Bool.or_true]
  have hread := (halt g k c t).coordination_readsAs Nat.one_ne_zero (by simp [payload]) h1 h30
    (raw_destValid_group _ rfl hg1 hg62) hlength hvalues other
  rwa [RawFrame.readCoordination, hkind, hgroup, hhalt, hcause, htag, if_pos hlen, haltKindOf_haltKindCode,
    causeOf_causeCode] at hread

theorem mark_readsAs {n : Nat} (h1 : 1 ≤ self) (h30 : self ≤ 30) (ht1 : 1 ≤ t) (ht : t ≤ 65535) (hn : n ≤ 1)
    (o : MarkOutcome) (other : Addr) : (mark t n o).ReadsAs self other (.markTaken self t n o) := by
  let r := (mark t n o).raw self
  have hkind : r.kind.toNat = 4 := raw_kind _
  have htag : RawFrame.num r 0 2 = t :=
    RawFrame.num_of_payload (before := []) (after := numBytes 1 n ++ numBytes 1 (markOutcomeCode o))
      (by simp [r, raw_payload, payload]) rfl ht
  have hnumber : RawFrame.byte r 2 = n :=
    RawFrame.byte_of_payload (before := numBytes 2 t) (after := numBytes 1 (markOutcomeCode o))
      (by simp [r, raw_payload, payload]) (length_numBytes 2 t) (by omega)
  have houtcome : RawFrame.byte r 3 = markOutcomeCode o :=
    RawFrame.byte_of_payload (before := numBytes 2 t ++ numBytes 1 n) (after := [])
      (by simp [r, raw_payload, payload]) (by simp) (markOutcomeCode_lt o)
  have hlength : RawFrame.lengthFits r = true := by rw [RawFrame.lengthFits, hkind]; rfl
  have hvalues : RawFrame.valuesFit r = true := by
    rw [RawFrame.valuesFit, hkind]
    simp only [htag, hnumber, houtcome, markOutcomeOf_markOutcomeCode, Option.isSome_some, Bool.and_true]
    rw [decide_eq_true (show t ≠ 0 by omega), decide_eq_true (show n < 2 by omega), Bool.true_and]
  have hread := (mark t n o).coordination_readsAs (by simp [dest]) (by simp [payload]) h1 h30
    (raw_destValid_all _ rfl) hlength hvalues other
  rwa [RawFrame.readCoordination, hkind, htag, hnumber, houtcome, markOutcomeOf_markOutcomeCode] at hread

theorem beacon_readsAs {d : Nat} (h1 : 1 ≤ self) (h30 : self ≤ 30) (hd : d ≤ 16) (st : NodeState) (other : Addr) :
    (beacon st d).ReadsAs self other (.beaconTaken self st d) := by
  let r := (beacon st d).raw self
  have hkind : r.kind.toNat = 6 := raw_kind _
  have hstate : RawFrame.byte r 0 = nodeStateCode st :=
    RawFrame.byte_of_payload (before := []) (after := numBytes 1 d) (by simp [r, raw_payload, payload]) rfl
      (nodeStateCode_lt st)
  have hdepth : RawFrame.byte r 1 = d :=
    RawFrame.byte_of_payload (before := numBytes 1 (nodeStateCode st)) (after := [])
      (by simp [r, raw_payload, payload]) (length_numBytes 1 _) (by omega)
  have hlength : RawFrame.lengthFits r = true := by rw [RawFrame.lengthFits, hkind]; rfl
  have hvalues : RawFrame.valuesFit r = true := by
    rw [RawFrame.valuesFit, hkind]
    simp only [hstate, hdepth, nodeStateOf_nodeStateCode, Option.isSome_some, Bool.true_and, decide_eq_true hd]
  have hread := (beacon st d).coordination_readsAs (by simp [dest]) (by simp [payload]) h1 h30
    (raw_destValid_all _ rfl) hlength hvalues other
  rwa [RawFrame.readCoordination, hkind, hstate, hdepth, nodeStateOf_nodeStateCode] at hread

end

/-! ## The replies (R164) -/

/-- Entries of equal length. -/
theorem length_flatMap_of_forall {α : Type} {f : α → List Byte} {k : Nat} (h : ∀ x, (f x).length = k) (xs : List α) :
    (xs.flatMap f).length = xs.length * k := by
  rw [List.length_flatMap, List.map_congr_left fun x _ => h x, List.map_const', List.sum_replicate, smul_eq_mul]

theorem length_payload_ack (a n k : Nat) (d : Option Nat) : (ack a n k d).payload.length ≤ 32 := by
  cases d <;> simp [payload]

theorem length_payload_status_group {b : GroupStatus} (a n : Nat) (h : b.lines.length ≤ 6) :
    (status a n (.group b)).payload.length ≤ 32 := by
  have hline (l : MemberLine) : (linePayload l).length = 4 := by simp [linePayload]
  simp only [payload, groupPayload, List.length_append, length_numBytes, length_flatMap_of_forall hline]
  omega

theorem length_payload_status_queue {b : QueueStatus} (a n : Nat) (h : b.lines.length ≤ 3) :
    (status a n (.queue b)).payload.length ≤ 32 := by
  have hline (l : QueueLine) : (entryPayload l).length = 8 := by simp [entryPayload]
  simp only [payload, queuePayload, List.length_append, length_numBytes, length_flatMap_of_forall hline]
  omega

end OutFrame

/-- Settles O60: bit by bit, and frame by frame. -/
theorem sentFramesReadBack : Obligations.SentFramesReadBack := by
  refine ⟨fun r m => ⟨?_, RawFrame.length_onBus r m, RawFrame.ofBus_onBus m⟩, fun s e m he => ?_, ?_,
    fun self other h1 h30 => ?_⟩
  · simp only [RawFrame.onBus, RawFrame.fieldBits, RawFrame.checkedBits, List.map_append, List.map_flatMap,
      map_bitLevel_msbFirst, List.cons_append, List.nil_append, List.append_assoc]
    rfl
  · rw [State.onBus, he]
    rfl
  · exact ⟨rfl, rfl, rfl, rfl, rfl, rfl, rfl, fun m => RawFrame.length_onBus _ m⟩
  · intro reads
    refine ⟨fun g t hg1 hg62 ht1 ht => ⟨?_, fun c => ?_, fun k c => ?_⟩, fun t n o ht1 ht hn => ?_, fun st d hd => ?_,
      fun a ha1 ha30 => ?_⟩
    · exact OutFrame.ready_readsAs h1 h30 hg1 hg62 ht1 ht other
    · exact OutFrame.withdraw_readsAs h1 h30 hg1 hg62 ht1 ht c other
    · exact OutFrame.halt_readsAs h1 h30 hg1 hg62 ht1 ht k c other
    · exact OutFrame.mark_readsAs h1 h30 ht1 ht hn o other
    · exact OutFrame.beacon_readsAs h1 h30 hd st other
    · have hreply (f : OutFrame) (hd : f.dest = (0, a)) (hk : isReplyCode f.kindCode = true)
          (hlen : f.payload.length ≤ 32) : reads f (.replyFrameTaken self) :=
        f.reply_readsAs hd hk hlen h1 h30 ha1 ha30 other
      refine ⟨fun n k d => ?_, fun n k r => ?_, fun r => ?_, fun n b => ?_, fun n b hb => ?_, fun n b hb => ?_⟩
      · exact hreply _ rfl rfl (OutFrame.length_payload_ack a n k d)
      · exact hreply _ rfl rfl (by simp [OutFrame.payload])
      · exact hreply _ rfl rfl (by simp [OutFrame.payload, reportPayload])
      · exact hreply _ rfl rfl (by simp [OutFrame.payload, nodePayload])
      · exact hreply _ rfl rfl (OutFrame.length_payload_status_group a n hb)
      · exact hreply _ rfl rfl (OutFrame.length_payload_status_queue a n hb)

end Sys2Proof.Machine
end

section
/-! SUPPORT. What the operations on the head, the notices and the peers take of the shares of the Frame Queue: a frame is queued
only where its share has room beside the entry reserved, and none is queued otherwise (R18, R94, R118, R150, R151, R155, R156). -/

-- One proof after another: elaborated side by side they need more threads than the check allows.
set_option deprecated.oldSectionVars true

namespace Sys2Proof.Machine

namespace FrameQueue

/-- No share holds more than it may, the reserved REPLY entry counted (R150, R156). -/
structure Fits (q : FrameQueue) : Prop where
  shares : ∀ k, q.count k ≤ share k
  slot   : q.reserved = true → q.count .reply < share .reply

variable {q r : FrameQueue}

/-- Fewer frames take no more of a share. -/
theorem Fits.of_le (h : q.Fits) (hc : ∀ k, r.count k ≤ q.count k) (hr : r.reserved = true → q.reserved = true) : r.Fits :=
  ⟨fun k => (hc k).trans (h.shares k), fun h' => (hc _).trans_lt (h.slot (hr h'))⟩

/-- A REPLY entry that is free stands beside those held and the one reserved (R156). -/
theorem free_pos_iff : 0 < q.free ↔ q.count .reply + (if q.reserved = true then 1 else 0) < share .reply := by
  unfold free
  split <;> omega

/-- A frame other than a reply joins a share with room. -/
theorem Fits.push (h : q.Fits) {f : OutFrame} (hf : f.cls ≠ .reply) (hroom : q.count f.cls < share f.cls) : (q.push f).Fits := by
  refine ⟨fun k => ?_, fun hr => ?_⟩
  · rw [count_push]
    split
    · rename_i hk
      exact hk ▸ hroom
    · exact h.shares k
  · rw [count_push, if_neg hf]
    exact h.slot hr

/-- A reply joins where a REPLY entry is free (R18). -/
theorem Fits.push_reply (h : q.Fits) {f : OutFrame} (hf : f.cls = .reply) (hroom : 0 < q.free) : (q.push f).Fits := by
  have hfree := free_pos_iff.mp hroom
  refine ⟨fun k => ?_, fun hr => ?_⟩
  · rw [count_push, hf]
    split
    · rename_i hk
      subst hk
      omega
    · exact h.shares k
  · have hres : q.reserved = true := hr
    rw [if_pos hres] at hfree
    rw [count_push, if_pos hf]
    exact hfree

/-- A reply fills the entry that was reserved for it (R156). -/
theorem Fits.fill (h : q.Fits) {f : OutFrame} (hf : f.cls = .reply) (hroom : q.count .reply < share .reply) :
    ({ q.push f with reserved := false } : FrameQueue).Fits := by
  refine ⟨fun k => ?_, nofun⟩
  rw [count_reserved, count_push, hf]
  split
  · rename_i hk
    exact hk ▸ hroom
  · exact h.shares k

theorem Fits.removeQueued (h : q.Fits) (pick : OutFrame → Bool) : (q.removeQueued pick).Fits :=
  h.of_le (q.count_removeQueued_le pick) id

theorem Fits.endSending (h : q.Fits) : q.endSending.Fits := h.of_le q.count_endSending_le id

theorem Fits.requeue (h : q.Fits) : q.requeue.Fits := h.of_le (fun k => (q.count_requeue k).le) id

theorem Fits.countBusy (h : q.Fits) : q.countBusy.Fits := h.of_le (fun k => (q.count_countBusy k).le) id

theorem Fits.changeHalt (h : q.Fits) (g : GroupNo) (n : NoticeContent) : (q.changeHalt g n).Fits :=
  h.of_le (fun k => (q.count_changeHalt g n k).le) id

theorem Fits.unreserve (h : q.Fits) : ({ q with reserved := false } : FrameQueue).Fits := ⟨h.shares, nofun⟩

theorem Fits.reserve (h : q.Fits) (hroom : q.count .reply < share .reply) : ({ q with reserved := true } : FrameQueue).Fits :=
  ⟨h.shares, fun _ => hroom⟩

/-- The queue of power-on is empty (R121). -/
theorem fits_powerOn : FrameQueue.powerOn.Fits := ⟨fun _ => Nat.zero_le _, nofun⟩

end FrameQueue

namespace State

variable {s : State}

/-! ## The head's frames -/

theorem queueSync_fits {f : OutFrame} (hf : f.cls = .sync) (h : s.fq.Fits) : (s.queueSync f).fq.Fits := by
  unfold queueSync
  split
  · exact h.push (by simp [hf]) (hf ▸ ‹_›)
  · exact h

theorem reachAll_fits (t : Tag) (ms : List Marker) (h : s.fq.Fits) : (s.reachAll t ms).fq.Fits := by
  induction ms generalizing s with
  | nil => exact h
  | cons m ms ih => exact ih (s := (s.queueSync _).updOut _) (queueSync_fits rfl h)

theorem reach_fits (pick : Marker → Bool) (h : s.fq.Fits) : (s.reach pick).fq.Fits := by
  unfold reach
  split
  · exact h
  · exact reachAll_fits _ _ h

theorem voidAll_fits (t : Tag) (ms : List Marker) (h : s.fq.Fits) : (s.voidAll t ms).fq.Fits := by
  induction ms generalizing s with
  | nil => exact h
  | cons m ms ih => exact ih (queueSync_fits rfl h)

theorem withdraw_fits (m : Move) (o : RetireOutcome) (c : Option Cause) (h : s.fq.Fits) : (s.withdraw m o c).fq.Fits := by
  rcases s.withdraw_cases m o c with ⟨-, he⟩ | ⟨g, k, -, he⟩
  · rwa [he]
  · rw [he]
    exact queueSync_fits rfl h

/-- A REPORT is queued where a REPLY entry is free, and waits otherwise (R18). -/
theorem report_fits (w : WaitingRecord) (h : s.fq.Fits) : (s.report w).fq.Fits := by
  unfold report
  split
  · exact h.push_reply rfl ‹_›
  · exact h

theorem retire_fits (o : RetireOutcome) (c : Option Cause) (h : s.fq.Fits) : (s.retire o c).fq.Fits := by
  unfold retire
  split
  · exact h
  · exact voidAll_fits _ _ (withdraw_fits _ o c (report_fits _ h))

theorem replyFreed_fits (h : s.fq.Fits) : s.replyFreed.fq.Fits := by
  unfold replyFreed
  split
  · exact h
  · rename_i w _
    split
    · have hp := h.push_reply (f := .report w.origin w.record) rfl ‹_›
      dsimp only
      split
      · exact retire_fits (s := (s.push _).updMc _) _ _ hp
      · exact hp
    · exact h

theorem giveUp_fits (o : RetireOutcome) (c : Cause) (later : List Cause) (h : s.fq.Fits) : (s.giveUp o c later).fq.Fits := by
  rw [giveUp, (addCauses_frame later _).2.1]
  exact retire_fits (s := s.removeReady) o (some c) (h.removeQueued _)

theorem failAnnounced_fits (c : Cause) (h : s.fq.Fits) : (s.failAnnounced c).fq.Fits := by
  unfold failAnnounced
  split
  · exact h
  · exact giveUp_fits _ _ _ h

theorem haltMove_fits (c : Cause) (h : s.fq.Fits) : (s.haltMove c).fq.Fits := by
  unfold haltMove
  split
  · split <;> exact retire_fits (s := s.stopLead) _ _ h
  · exact h

theorem haltDescent_fits (c : Cause) (h : s.fq.Fits) : (s.haltDescent c).fq.Fits := by
  unfold haltDescent
  split
  · exact haltMove_fits c h
  · exact h

theorem completeSeek_fits (h : s.fq.Fits) : s.completeSeek.fq.Fits :=
  retire_fits _ _ (reach_fits (s := s.stopLead.updLead _) _ h)

/-! ## Notices -/

theorem raiseNotice_fits (g : GroupNo) (n : NoticeContent) (d : Bool) (h : s.fq.Fits) : (s.raiseNotice g n d).fq.Fits := by
  unfold raiseNotice
  split
  · exact h
  · split
    · exact h
    · exact h.changeHalt _ _

theorem notify_fits (m : Move) (k : HaltKind) (c : Cause) (d : Bool) (h : s.fq.Fits) : (s.notify m k c d).fq.Fits := by
  unfold notify
  split
  · exact raiseNotice_fits _ _ _ h
  · exact h

theorem noticeReturned_fits (g : GroupNo) (h : s.fq.Fits) : (s.noticeReturned g).fq.Fits := by
  unfold noticeReturned
  split
  · split
    · exact h.changeHalt _ _
    · exact h
  · exact h

theorem noticeDiscarded_fits (g : GroupNo) (h : s.fq.Fits) : (s.noticeDiscarded g).fq.Fits := by
  unfold noticeDiscarded
  split
  · exact raiseNotice_fits (s := s.updMc _) _ _ _ h
  · exact h

theorem haltMeetsNotice_fits (g : GroupNo) (k : HaltKind) (h : s.fq.Fits) : (s.haltMeetsNotice g k).fq.Fits := by
  unfold haltMeetsNotice
  split
  · split
    · exact h.removeQueued _
    · exact h
  · exact h

/-- A HALT is queued where the URGENT share is free (R94). -/
theorem fillUrgent_fits (h : s.fq.Fits) : s.fillUrgent.fq.Fits := by
  rcases s.fillUrgent_cases with ⟨he, -⟩ | ⟨n, -, hroom, he⟩
  · rwa [he]
  · rw [he]
    exact h.push (f := .halt n.group n.content.kind n.content.cause n.content.tag) nofun hroom

theorem stopMove_fits (c : Cause) (d : Bool) (h : s.fq.Fits) : (s.stopMove c d).fq.Fits := by
  unfold stopMove
  split
  · exact notify_fits _ _ _ _ (haltMove_fits c h)
  · exact h

theorem rampMove_fits (c : Cause) (h : s.fq.Fits) : (s.rampMove c).fq.Fits := by
  unfold rampMove
  split
  · exact notify_fits _ _ _ _ (haltDescent_fits (s := s.addCause c) c h)
  · exact h

/-! ## The end of an event -/

theorem linkCause_fits (h : s.fq.Fits) : s.linkCause.fq.Fits := by
  unfold linkCause
  split
  case h_4 => split <;> exact giveUp_fits _ _ _ h
  case h_5 => exact giveUp_fits _ _ _ h
  case h_6 | h_7 => exact stopMove_fits _ _ h
  all_goals exact h

theorem giveLink_fits (h : s.fq.Fits) : s.giveLink.fq.Fits := by
  unfold giveLink
  split
  · exact linkCause_fits h
  · exact h

/-- A READY is queued where the SYNC share has room (R15, R155). -/
theorem announce_fits (g : GroupNo) (m : Move) (h : s.fq.Fits) : (s.announce g m).fq.Fits := by
  unfold announce
  split
  · exact h.push (f := .ready g m.tag) nofun ‹_›
  · exact h

theorem armHead_fits (m : Move) (h : s.fq.Fits) : (s.armHead m).fq.Fits := by
  unfold armHead startSolo
  split
  · exact retire_fits _ _ h
  · split
    · exact announce_fits _ m h
    · split
      · exact completeSeek_fits (s := s.startMove m) h
      · exact h

theorem settle_fits (n : Nat) (h : s.fq.Fits) : (s.settle n).fq.Fits := by
  induction n generalizing s with
  | zero => exact giveLink_fits h
  | succ n ih =>
    simp only [settle]
    split
    · split
      · exact ih (armHead_fits _ (giveLink_fits h))
      · exact giveLink_fits h
    · exact giveLink_fits h

theorem offer_fits (h : s.fq.Fits) : s.offer.fq.Fits :=
  h.of_le (fun k => (s.offer_fq.1 k).le) fun hr => s.offer_fq.2.1 ▸ hr

theorem finish_fits (h : s.fq.Fits) : s.finish.fq.Fits := offer_fits (fillUrgent_fits (settle_fits _ h))

/-- Nothing of an event's end reserves an entry or releases one (R156). -/
theorem finish_reserved (s : State) : s.finish.fq.reserved = s.fq.reserved :=
  (offer_fq _).2.1.trans ((settle_keepsFlight _ s).trans (fillUrgent_keepsRoom _).toKeepsFlight).reserved

/-! ## Presence and the frames of coordination -/

theorem groupBroken_fits (g : GroupNo) (h : s.fq.Fits) : (s.groupBroken g).fq.Fits := by
  unfold groupBroken
  split
  · split
    · exact rampMove_fits _ h
    · exact failAnnounced_fits _ h
    · exact failAnnounced_fits _ h
    · exact h
  · exact h

theorem presenceInGroup_fits (a : Addr) (lost : Bool) (g : GroupNo) (h : s.fq.Fits) :
    (s.presenceInGroup a lost g).fq.Fits := by
  unfold presenceInGroup
  split
  · exact h
  · dsimp only
    split
    · exact groupBroken_fits (s := s.updGroup g _) g h
    · exact h

theorem presenceInGroups_fits (a : Addr) (lost : Bool) (gs : List GroupNo) (h : s.fq.Fits) :
    (gs.foldl (presenceInGroup a lost) s).fq.Fits := by
  induction gs generalizing s with
  | nil => exact h
  | cons g gs ih => exact ih (presenceInGroup_fits a lost g h)

theorem setPresence_fits (a : Addr) (p : Presence) (h : s.fq.Fits) : (s.setPresence a p).fq.Fits := by
  unfold setPresence
  split
  · exact h
  · split
    · exact h
    · exact presenceInGroups_fits (s := s.updPeerEntry a _) a _ _ h

theorem hear_fits (src : Addr) (k : Heard) (h : s.fq.Fits) : (s.hear src k).fq.Fits := by
  unfold hear
  dsimp only
  split
  · exact setPresence_fits (s := s.updPeerEntry src _) _ _ h
  · exact h

theorem staleStart_fits (g : GroupNo) (t : Tag) (h : s.fq.Fits) : (s.staleStart g t).fq.Fits := by
  unfold staleStart
  split
  · exact raiseNotice_fits (s := s.updFq _) _ _ _ (h.removeQueued _)
  · exact raiseNotice_fits _ _ _ h

theorem startEvent_fits (g : GroupNo) (t : Tag) (h : s.fq.Fits) : (s.startEvent g t).fq.Fits := by
  unfold startEvent
  dsimp only
  split
  · split
    · exact h.removeQueued _
    · exact h
  · exact staleStart_fits (s := s.updGroup g _) g t h

theorem readyTake_fits (src : Addr) (g : GroupNo) (t : Tag) (h : s.fq.Fits) : (s.readyTake src g t).fq.Fits := by
  unfold readyTake
  split
  · exact h
  · split
    · dsimp only
      split
      · exact startEvent_fits (s := s.updGroup g _) g t h
      · split
        · exact giveUp_fits (s := s.updGroup g _) _ _ _ h
        · split <;> exact h
    · exact h

theorem withdrawn_fits (g : GroupNo) (t : Tag) (h : s.fq.Fits) : (s.withdrawn g t).fq.Fits := by
  unfold withdrawn
  split
  · split
    · exact giveUp_fits _ _ _ h
    · split
      · exact h
      · rw [(judgeGates_frame _).2.1]
        exact h
  · exact h

theorem withdrawTake_fits (src : Addr) (g : GroupNo) (t : Tag) (h : s.fq.Fits) : (s.withdrawTake src g t).fq.Fits := by
  unfold withdrawTake
  split
  · exact h
  · split
    · dsimp only
      split
      · exact h
      · exact withdrawn_fits (s := s.updGroup g _) g t h
    · exact h

theorem haltAct_fits (g : GroupNo) (k : HaltKind) (c : Cause) (h : s.fq.Fits) : (s.haltAct g k c).fq.Fits := by
  unfold haltAct
  split
  case h_5 | h_6 => split <;> exact giveUp_fits _ _ _ h
  case h_7 =>
    split
    · split
      · exact haltDescent_fits (s := s.addCause c) c h
      · exact haltMove_fits c h
    · exact h
  case h_8 =>
    split
    · split
      · exact h
      · exact haltMove_fits c h
    · exact h
  all_goals exact h

theorem haltTake_fits (src : Addr) (g : GroupNo) (k : HaltKind) (h : s.fq.Fits) : (s.haltTake src g k).fq.Fits := by
  unfold haltTake
  split
  · exact h
  · exact haltAct_fits g k _ (haltMeetsNotice_fits (s := s.updGroup g _) g k h)

theorem markTake_fits (src : Addr) (t : Tag) (n : Nat) (o : MarkOutcome) (h : s.fq.Fits) : (s.markTake src t n o).fq.Fits := by
  rwa [(markTake_frame src t n o s).2.1]

/-! ## The ends of an attempt -/

theorem unreserved_fits (h : s.fq.Fits) : s.unreserved.fq.Fits := by
  unfold unreserved
  split
  · exact replyFreed_fits (s := s.reserve false) h.unreserve
  · exact h

/-- No entry stands reserved after a release (R156). -/
theorem unreserved_reserved (s : State) : s.unreserved.fq.reserved = false := by
  unfold unreserved
  split
  · exact (replyFreed_keepsReadies (s.reserve false)).reserved
  · exact Bool.eq_false_iff.mpr ‹_›

theorem released_fits (h : s.fq.Fits) : s.released.fq.Fits := by
  unfold released
  split
  · exact finish_fits (unreserved_fits h)
  · exact h

theorem released_reserved (s : State) : s.released.fq.reserved = false := by
  unfold released
  split
  · exact (finish_reserved _).trans s.unreserved_reserved
  · exact Bool.eq_false_iff.mpr ‹_›

theorem returned_fits (f : OutFrame) (h : s.fq.Fits) : (s.returned f).fq.Fits := by
  unfold returned
  split
  · split
    · exact h
    · exact giveUp_fits _ _ _ h
  · exact noticeReturned_fits _ h
  · exact h

theorem discard_fits (f : OutFrame) (h : s.fq.Fits) : (s.discard f).fq.Fits := by
  have told {u : State} (hu : u.fq.Fits) : (u.discardTold f).fq.Fits := by
    unfold discardTold
    split
    · split
      · exact noticeDiscarded_fits _ hu
      · exact hu
    · exact replyFreed_fits hu
    · exact hu
  have link {u : State} (hu : u.fq.Fits) : (u.discardLink f).fq.Fits := by
    unfold discardLink
    split
    · exact linkCause_fits hu
    · exact linkCause_fits hu
    · exact hu
  exact link (told (u := (s.updLink _).updFq _) h.endSending)

theorem attemptRejected_fits (h : s.fq.Fits) : s.attemptRejected.fq.Fits := by
  unfold attemptRejected
  split
  · exact h
  · split
    · exact returned_fits (s := (s.updFq _).updLink _) _ h.requeue
    · exact discard_fits _ h

theorem attemptBusy_fits (h : s.fq.Fits) : s.attemptBusy.fq.Fits := by
  unfold attemptBusy
  split
  · exact h
  · split
    · dsimp only
      split
      · exact h.countBusy.requeue
      · exact replyFreed_fits (s := (s.updLink _).updFq _) h.endSending
    · exact attemptRejected_fits h

theorem attemptLost_fits (h : s.fq.Fits) : s.attemptLost.fq.Fits := by
  unfold attemptLost
  split
  · exact h
  · exact finish_fits (returned_fits (s := (s.updFq _).updLink _) _ h.requeue)

theorem attemptLost_reserved (s : State) : s.attemptLost.fq.reserved = s.fq.reserved := by
  unfold attemptLost
  split
  · rfl
  · exact (finish_reserved _).trans (returned_keepsFlight _ _).reserved

theorem actOnKept_fits (c : Cause) (h : s.fq.Fits) : (s.actOnKept c).fq.Fits := by
  unfold actOnKept
  split
  · exact stopMove_fits _ _ h
  · exact rampMove_fits _ h
  · exact stopMove_fits _ _ h

theorem addCauses_fits (l : List Cause) (h : s.fq.Fits) : (s.addCauses l).fq.Fits := by rwa [(addCauses_frame l s).2.1]

theorem decideKept_fits (kept : List Cause) (h : s.fq.Fits) : (s.decideKept kept).fq.Fits := by
  unfold decideKept
  split
  · split
    · exact h
    · exact addCauses_fits _ (actOnKept_fits _ h)
  · split
    · exact h
    · exact giveUp_fits _ _ _ h
  · exact addCauses_fits kept h
  · exact h

theorem ownDispatch_fits (f : OutFrame) (h : s.fq.Fits) : (s.ownDispatch f).fq.Fits := by
  unfold ownDispatch
  split
  case h_1 => exact decideKept_fits _ (readyTake_fits (s := s.updMc _) _ _ _ h).endSending
  case h_2 => exact (withdrawTake_fits _ _ _ h).endSending
  case h_3 g _ _ _ =>
    rw [(noticeTaken_frame g _).2.1]
    exact h.endSending
  case h_4 => exact (markTake_fits _ _ _ _ h).endSending
  case h_5 => exact h.endSending
  all_goals exact replyFreed_fits (s := s.updFq _) h.endSending

end State

end Sys2Proof.Machine
end

section
/-! No command takes a share of the Frame Queue above what it holds, and an entry stands reserved only in the slot of a frame in
progress (R118, R141, R142, R147, R150, R156). -/

-- One proof after another: elaborated side by side they need more threads than the check allows.
set_option deprecated.oldSectionVars true

namespace Sys2Proof.Machine

namespace State

/-- The shares are kept, and an entry stands reserved only while a frame is in progress on a link that is not OFFLINE (R150,
R156). -/
structure Shared (s : State) : Prop where
  fits   : s.fq.Fits
  framed : s.fq.reserved = true → s.link.inFrame = true ∧ s.link.state ≠ .offline

theorem sharesOk_iff (s : State) : s.sharesOk ↔ s.Shared :=
  ⟨fun ⟨h, hr⟩ => ⟨⟨h, fun hr' => (hr hr').1⟩, fun hr' => (hr hr').2⟩,
    fun ⟨⟨h, hs⟩, hf⟩ => ⟨h, fun hr => ⟨hs hr, hf hr⟩⟩⟩

variable {s t : State}

/-- Nothing is asked of the frame in progress where no entry is reserved. -/
theorem Shared.of_unreserved (h : s.fq.Fits) (hr : s.fq.reserved = false) : s.Shared := ⟨h, by simp [hr]⟩

/-- An operation that keeps the reservation ends no frame in progress and leaves no link OFFLINE that was not. -/
theorem Shared.of_reserved (h : s.Shared) (hf : t.fq.Fits) (hr : t.fq.reserved = s.fq.reserved)
    (hframe : s.link.inFrame = true → t.link.inFrame = true)
    (hlink : s.link.state ≠ .offline → t.link.state ≠ .offline) : t.Shared :=
  ⟨hf, fun hr' => (h.framed (hr ▸ hr')).imp hframe hlink⟩

/-- An operation that leaves the reservation and the link alone. -/
theorem Shared.of_slot (h : s.Shared) (hk : s.KeepsSlot t) (hf : t.fq.Fits) : t.Shared :=
  h.of_reserved hf hk.fq.reserved (by simp [hk.link]) (by simp [hk.link])

/-- An operation that leaves the Frame Queue and the link alone. -/
theorem Shared.of_frame (h : s.Shared) (hf : t.fq = s.fq := by simp) (hl : t.link = s.link := by simp) : t.Shared :=
  h.of_slot (.of_eq hf hl) (hf ▸ h.fits)

/-! ## The end of an event -/

/-- An offer puts a frame in progress and changes no count (R137, R152). -/
theorem offer_shared (h : s.Shared) : s.offer.Shared := by
  refine h.of_reserved (offer_fits h.fits) s.offer_fq.2.1 ?_ ?_
  all_goals rcases s.offer_cases with ⟨he, -⟩ | ⟨k, -, -, -, -, he⟩ <;> simp [he]

theorem finish_shared (h : s.Shared) : s.finish.Shared :=
  offer_shared (h.of_slot ⟨(settle_keepsFlight _ s).trans (fillUrgent_keepsRoom _).toKeepsFlight, by simp⟩
    (fillUrgent_fits (settle_fits _ h.fits)))

theorem released_shared (h : s.fq.Fits) : s.released.Shared := .of_unreserved (released_fits h) s.released_reserved

/-! ## The ends of an attempt -/

/-- A loss in arbitration leaves the winner's frame in progress (R138). -/
theorem attemptLost_shared (h : s.Shared) : s.attemptLost.Shared := by
  unfold attemptLost
  split
  · exact h
  · rename_i e _
    have hq : ((s.updFq FrameQueue.requeue).updLink fun l => { l with idleCount := 0, inFrame := true }).Shared :=
      h.of_reserved h.fits.requeue rfl (fun _ => rfl) id
    exact finish_shared (hq.of_slot ⟨returned_keepsFlight e.frame _, by simp⟩ (returned_fits _ hq.fits))

/-- The end of an event that has left no entry reserved. -/
theorem finish_shared_of_unreserved (h : s.fq.Fits) (hr : s.fq.reserved = false) : s.finish.Shared :=
  finish_shared (.of_unreserved h hr)

theorem ownDispatch_reserved (f : OutFrame) (s : State) : (s.ownDispatch f).fq.reserved = s.fq.reserved := by
  unfold ownDispatch
  split
  case h_1 => exact (decideKept_keepsFlight _ _).reserved.trans (readyTake_keepsFlight _ _ _ _).reserved
  case h_2 => exact (withdrawTake_keepsFlight _ _ _ s).reserved
  case h_3 => simp
  case h_4 => simp
  case h_5 => rfl
  all_goals exact (replyFreed_keepsReadies _).reserved

theorem ownTaken_shared (h : s.Shared) : s.ownTaken.Shared := by
  unfold ownTaken
  split
  · exact h
  · refine finish_shared_of_unreserved (ownDispatch_fits _ ?_) ((ownDispatch_reserved _ _).trans ?_)
    · exact unreserved_fits (s := s.afterSlot _) h.fits
    · exact unreserved_reserved _

theorem attemptRejected_reserved (s : State) : s.attemptRejected.fq.reserved = s.fq.reserved := by
  unfold attemptRejected
  split
  · rfl
  · split
    · exact (returned_keepsFlight _ _).reserved
    · exact ((discardTold_keepsFlight _ _).trans (discardLink_keepsFlight _ _)).reserved

theorem attemptBusy_reserved (s : State) : s.attemptBusy.fq.reserved = s.fq.reserved := by
  unfold attemptBusy
  split
  · rfl
  · split
    · dsimp only
      split
      · rfl
      · exact (replyFreed_keepsReadies _).reserved
    · exact s.attemptRejected_reserved

/-- A slot that ends in a rejection releases the entry reserved in it (R156). -/
theorem slotRejects_shared (own : Bool) (m : SlotMarks) (h : s.fq.Fits) : (s.slotRejects own m).Shared := by
  unfold slotRejects
  split
  · exact finish_shared_of_unreserved (attemptRejected_fits (unreserved_fits (s := s.afterSlot m) h))
      ((attemptRejected_reserved _).trans (unreserved_reserved _))
  · exact released_shared (s := s.afterSlot m) h

theorem ownRejected_shared (m : SlotMarks) (h : s.Shared) : (s.ownRejected m).Shared := by
  unfold ownRejected
  split
  · exact h
  · exact slotRejects_shared true m h.fits

theorem ownBusy_shared (h : s.Shared) : s.ownBusy.Shared := by
  unfold ownBusy
  split
  · exact h
  · exact finish_shared_of_unreserved (attemptBusy_fits (unreserved_fits (s := s.afterSlot _) h.fits))
      ((attemptBusy_reserved _).trans (unreserved_reserved _))

/-- An address clash releases the entry reserved (R147, R156). -/
theorem clash_shared (h : s.fq.Fits) : s.clash.Shared := by
  have hblocked {u : State} (hu : u.fq.Fits) :
      (((u.afterSlot SlotMarks.none).updLink fun l =>
        { l with state := .blocked, listenTimer := none, rejects := 0 }).restartBeacon.unreserved.takeLink.finish).Shared :=
    finish_shared_of_unreserved (linkCause_fits (unreserved_fits (s := State.restartBeacon _) hu))
      ((linkCause_keepsFlight _).reserved.trans (unreserved_reserved _))
  unfold clash
  dsimp only
  split
  · split
    · exact hblocked (noticeReturned_fits (s := s.updFq _) _ h.requeue)
    · exact hblocked (u := s.updFq _) h.requeue
  · exact hblocked (u := s.updFq _) h.requeue

/-! ## Taking a frame -/

/-- A frame is not taken OFFLINE, where no entry stands reserved (R146, R156). -/
theorem afterSlot_shared_of_offline (m : SlotMarks) (h : s.Shared) (ho : s.link.state = .offline) : (s.afterSlot m).Shared :=
  .of_unreserved h.fits (Bool.eq_false_iff.mpr fun hr => (h.framed hr).2 ho)

theorem takeHeld_shared {src : Addr} {own : OutFrame → Bool} {act : State → State} (h : s.Shared)
    (ha : src ≠ s.self → (act (s.attemptLost.afterSlot SlotMarks.none)).Shared) : (s.takeHeld src own act).Shared := by
  unfold takeHeld
  split
  · exact afterSlot_shared_of_offline _ h ‹_›
  · split
    · split
      · exact ownTaken_shared h
      · exact clash_shared h.fits
    · exact ha ‹_›

/-- A frame that asks for no reply finds no entry reserved when it acts (R156). -/
theorem takeFrom_shared (src : Addr) (own : OutFrame → Bool) {act : State → State} (h : s.Shared)
    (ha : ∀ u : State, u.Shared → (act u).Shared) : (s.takeFrom src own act).Shared :=
  takeHeld_shared (released_shared h.fits) fun _ =>
    ha _ (.of_unreserved (s := s.released.attemptLost.afterSlot _) (attemptLost_fits (released_fits h.fits))
      ((attemptLost_reserved _).trans s.released_reserved))

theorem hear_shared (src : Addr) (k : Heard) (h : s.Shared) : (s.hear src k).Shared :=
  h.of_slot ⟨hear_keepsFlight src k s, by simp⟩ (hear_fits src k h.fits)

/-! ## Requests -/

/-- A slot that found room leaves an entry for the reply (R141, R156). -/
theorem count_lt_of_hasRoom (h : s.fq.Fits) (hr : s.hasRoom = true) : s.fq.count .reply < share .reply := by
  rw [hasRoom, Bool.or_eq_true, decide_eq_true_eq] at hr
  rcases hr with hr | hr
  · exact h.slot hr
  · have hpos : 0 < s.fq.free := by omega
    exact (Nat.le_add_right _ _).trans_lt (FrameQueue.free_pos_iff.mp hpos)

/-- A request, if its action keeps the shares and leaves an entry for the reply (R141, R156, R157). -/
theorem request_shared (src num : Nat) (k : RequestKind) {act : State → State × Reply} {after : State → State} (h : s.Shared)
    (hafter : ∀ u : State, u.Shared → (after u).Shared)
    (ha : ∀ u : State, u.fq.Fits → u.fq.reserved = true →
      (act u).1.fq.Fits ∧ (act u).1.fq.count .reply < share .reply) : (s.request src num k act after).Shared := by
  unfold request
  split
  · exact afterSlot_shared_of_offline _ h ‹_›
  · by_cases hsrc : src = s.self
    · simp only [if_pos hsrc]
      split
      · exact slotRejects_shared _ _ h.fits
      · exact clash_shared h.fits
    · have hl := attemptLost_fits h.fits
      simp only [if_neg hsrc]
      split
      · exact slotRejects_shared _ _ hl
      · rename_i hroom
        have hroom := count_lt_of_hasRoom hl (by simpa using hroom)
        obtain ⟨hf, hc⟩ := ha (((s.attemptLost.afterSlot SlotMarks.none).hear src .alive).reserve true) (hl.reserve hroom) rfl
        exact hafter _ (.of_unreserved (hf.fill (Reply.frame_cls ..) hc) rfl)

/-- A request whose action leaves the Frame Queue alone. -/
theorem request_shared_of_fq (src num : Nat) (k : RequestKind) {act : State → State × Reply} {after : State → State}
    (h : s.Shared) (hafter : ∀ u : State, u.Shared → (after u).Shared) (hfq : ∀ u : State, (act u).1.fq = u.fq) :
    (s.request src num k act after).Shared :=
  request_shared src num k h hafter fun u hu hr => by
    rw [hfq]
    exact ⟨hu, hu.slot hr⟩

theorem stopAct_fits (k : Nat) (h : s.fq.Fits) : (s.stopAct k).1.fq.Fits := by
  have hann {u : State} (hu : u.fq.Fits) : u.stopAnnounced.fq.Fits := by
    unfold stopAnnounced
    split
    · exact notify_fits _ _ _ _ (giveUp_fits _ _ _ hu)
    · exact hu
  unfold stopAct
  split
  · exact h
  · split
    · exact h
    · unfold stopEffect
      dsimp only
      split
      case h_4 | h_5 => exact hann h
      case h_6 =>
        split
        · exact rampMove_fits _ h
        · exact stopMove_fits _ _ h
      case h_7 =>
        split
        · exact h
        · exact stopMove_fits _ _ h
      all_goals exact h

@[simp] theorem judgeInput_fq (i : InputName) (c : Cause) (s : State) : (s.judgeInput i c).fq = s.fq := by
  unfold judgeInput
  split <;> rfl

/-- COMMIT changes the Frame Queue by the LINK cause of a BLOCKED link only (R101, R131). -/
theorem commitEffect_fits (h : s.fq.Fits) :
    s.commitEffect.fq.Fits ∧ s.commitEffect.fq.reserved = s.fq.reserved := by
  have hq : ((s.commitBuild.judgeInput .dalm .driveAlarm).judgeInput .stopin .stopInput).fq = s.fq := by
    rw [judgeInput_fq, judgeInput_fq]
    rfl
  unfold commitEffect judgeBlocked
  split
  · exact ⟨linkCause_fits (hq ▸ h), (linkCause_keepsFlight _).reserved.trans (congrArg _ hq)⟩
  · exact ⟨hq ▸ h, congrArg _ hq⟩

theorem doCommit_shared (src num : Nat) (h : s.Shared) : (doCommit src num s).Shared := by
  refine request_shared src num .commit h (fun _ => offer_shared) fun u hu hr => ?_
  split
  · exact ⟨hu, hu.slot hr⟩
  · obtain ⟨hf, hres⟩ := commitEffect_fits hu
    exact ⟨hf, hf.slot (hres.trans hr)⟩

theorem doRestart_shared (src num : Nat) (h : s.Shared) : (doRestart src num s).Shared := by
  refine request_shared src num .restart h (fun _ => offer_shared) fun u hu hr => ?_
  split
  · exact ⟨FrameQueue.fits_powerOn, Nat.zero_lt_succ _⟩
  · exact ⟨hu, hu.slot hr⟩

theorem doStop_shared (src num k : Nat) (h : s.Shared) : (doStop src num k s).Shared :=
  request_shared src num .stop h (fun _ => finish_shared) fun u hu hr =>
    ⟨stopAct_fits k hu, (stopAct_fits k hu).slot ((u.stopAct_reserved k).trans hr)⟩

/-! ## The events of the node's own -/

/-- The slot of a frame that asks this node for a reply passes, and an entry stands reserved where it found room (R156). -/
theorem slotPassed_shared (r : Bool) (h : s.Shared) : (s.slotPassed r).Shared := by
  unfold slotPassed
  split
  · dsimp only
    split
    · rename_i hroom
      exact ⟨h.fits.reserve (count_lt_of_hasRoom h.fits hroom.2), fun _ => ⟨rfl, hroom.1⟩⟩
    · exact h.of_reserved (t := s.updLink _) h.fits rfl (fun _ => rfl) id
  · exact h

theorem failAnnounced_shared (c : Cause) (h : s.Shared) : (s.failAnnounced c).Shared :=
  h.of_slot (s.failAnnounced_keepsSlot c) (failAnnounced_fits c h.fits)

theorem stopMove_shared (c : Cause) (d : Bool) (h : s.Shared) : (s.stopMove c d).Shared :=
  h.of_slot (s.stopMove_keepsSlot c d) (stopMove_fits c d h.fits)

theorem afterStep_fits (m : Move) (h : s.fq.Fits) : (s.afterStep m).fq.Fits := by
  have hr (o : RetireOutcome) (c : Option Cause) : (s.stopLead.retire o c).fq.Fits := retire_fits (s := s.stopLead) o c h
  unfold afterStep leadEnds
  split
  · split <;> exact hr _ _
  · split
    · exact hr _ _
    · exact h

theorem leadStep_shared (h : s.Shared) : s.leadStep.Shared := by
  unfold leadStep
  split
  · rename_i st m _ _
    obtain ⟨-, -, -, -, hlink, hfq, -⟩ := s.stepLine_frame m
    have hline : ((s.stepLine m).updLead fun l => l.stepped m st.kind).Shared := h.of_frame hfq hlink
    have hreach (p : Marker → Bool) {u : State} (hu : u.Shared) : (u.reach p).Shared :=
      hu.of_slot ⟨(reach_keepsRoom p u).toKeepsFlight, by simp⟩ (reach_fits p hu.fits)
    have hafter {u : State} (hu : u.Shared) : (u.afterStep m).Shared :=
      hu.of_slot ⟨(u.afterStep_keeps m).1, (u.afterStep_keeps m).2.1⟩ (afterStep_fits m hu.fits)
    exact finish_shared (hafter (hreach _ hline))
  · exact h

theorem rollExpires_shared (h : s.Shared) : s.rollExpires.Shared := by
  have hr : (s.updRoll fun r => { r with timer := none }).Shared := h.of_frame
  unfold rollExpires
  split
  · exact h
  · dsimp only
    split
    · exact finish_shared (failAnnounced_shared _ hr)
    · exact hr

theorem gateExpires_shared (h : s.Shared) : s.gateExpires.Shared := by
  have hg : (s.updGate fun g => { g with timer := none }).Shared := h.of_frame
  unfold gateExpires
  split
  · exact h
  · dsimp only
    split
    · exact hg.of_frame
    · exact finish_shared (hg.of_slot ⟨(retire_keepsReadies _ _ _).toKeepsFlight, by simp⟩ (retire_fits _ _ hg.fits))

theorem silenceExpires_shared (p : Addr) (h : s.Shared) : (s.silenceExpires p).Shared := by
  unfold silenceExpires
  split
  · exact h
  · split
    · exact h
    · have hp : (s.updPeerEntry p fun x => { x with timer := none }).Shared := h.of_frame
      exact finish_shared (hp.of_slot ⟨setPresence_keepsFlight _ _ _, by simp⟩ (setPresence_fits _ _ hp.fits))

/-- A BEACON is queued into an empty queue only (R118). -/
theorem beaconExpires_shared (h : s.Shared) : s.beaconExpires.Shared := by
  have hr : s.restartBeacon.Shared := h.of_frame
  have hq : s.restartBeacon.queueBeacon.Shared := by
    unfold queueBeacon
    split
    · rename_i hempty
      have hroom : s.restartBeacon.fq.count .beacon < share .beacon := by
        rw [FrameQueue.count, hempty.1]
        exact Nat.zero_lt_one
      exact hr.of_slot ⟨FrameQueue.keepsFlight_push _ _, rfl⟩
        (hr.fits.push (f := .beacon s.restartBeacon.mc.state s.restartBeacon.mc.queue.length) nofun hroom)
    · exact hr
  unfold beaconExpires
  split
  · exact h
  · exact offer_shared hq

theorem listenExpires_shared (h : s.Shared) : s.listenExpires.Shared := by
  unfold listenExpires
  split
  · exact h
  · refine finish_shared (h.of_reserved ?_ ?_ ?_ ?_)
    · simpa using h.fits
    all_goals simp

/-- The bus becomes idle with no frame in progress, and so with no entry reserved (R136, R156). -/
theorem idle_shared (h : s.Shared) : s.idle.Shared := by
  have leave (u : State) : u.leaveOffline.fq = u.fq := by
    unfold leaveOffline
    split <;> rfl
  unfold idle
  split
  · exact h
  · rename_i hno
    have hr : s.fq.reserved = false := Bool.eq_false_iff.mpr fun hr => hno (.inr (h.framed hr).1)
    refine offer_shared (.of_unreserved ?_ ?_)
    · rw [leave]
      exact h.fits
    · rw [leave]
      exact hr

theorem dominantBit_shared (h : s.Shared) : s.dominantBit.Shared := by
  unfold dominantBit
  split
  · exact h
  · split
    · exact h.of_reserved (t := s.updLink _) h.fits rfl id id
    · exact h.of_reserved (t := s.updLink _) h.fits rfl (fun _ => rfl) id

theorem assertion_shared (i : InputName) {deliver : State → State} (h : s.Shared)
    (hd : ∀ u : State, u.Shared → (deliver u).Shared) : (s.assertion i deliver).Shared := by
  have hr : (s.register i (s.activeLevel i)).Shared := h.of_frame
  unfold assertion
  split
  · exact h
  · split
    · exact hr
    · exact hd _ hr

theorem limitDelivered_shared (side : LimitSide) (h : s.Shared) : (s.limitDelivered side).Shared := by
  unfold limitDelivered
  repeat' split
  · exact finish_shared (failAnnounced_shared _ h)
  · exact finish_shared (stopMove_shared _ _ h)
  all_goals exact h

theorem localStop_fits (c : Cause) (h : s.fq.Fits) : (s.localStop c).fq.Fits := by
  unfold localStop
  split
  case h_4 | h_5 => exact failAnnounced_fits c h
  case h_6 | h_7 => exact stopMove_fits c _ h
  all_goals exact h

theorem driveStop_shared (c : Cause) (h : s.Shared) : (s.driveStop c).Shared := by
  have hd : (s.updOut fun o => { o with dren := false }).Shared := h.of_frame
  obtain ⟨hfq, hlink, -⟩ := localStop_keeps c (s.updOut fun o => { o with dren := false })
  unfold driveStop
  split
  · exact h
  · exact finish_shared (hd.of_slot ⟨hfq, hlink⟩ (localStop_fits c hd.fits))

theorem homeDelivered_shared (h : s.Shared) : s.homeDelivered.Shared := by
  unfold homeDelivered
  repeat' split
  · exact finish_shared (h.of_slot ⟨s.completeSeek_keepsReadies.toKeepsFlight, by simp⟩ (completeSeek_fits h.fits))
  all_goals exact h

/-! ## Every command -/

/-- What a frame of coordination sets going: its sender is heard, the frame acts, and the event ends (R142). -/
theorem takeHeard_shared (src : Addr) (k : Heard) (own : OutFrame → Bool) {act : State → State} (h : s.Shared)
    (hk : ∀ u : State, u.KeepsSlot (act u)) (hf : ∀ u : State, u.fq.Fits → (act u).fq.Fits) :
    (s.takeFrom src own fun s => (act (s.hear src k)).finish).Shared :=
  takeFrom_shared src own h fun _ hu =>
    have hh := hear_shared src k hu
    finish_shared (hh.of_slot (hk _) (hf _ hh.fits))

/-- Every command but those that are told with a frame's bits keeps the shares. -/
theorem exec_shared_of_not_bits {c : Sys2Proof.Instr} (hb : readsBits c = false) (h : s.Shared) (he : exec c s = .next t) :
    t.Shared := by
  cases c <;> cases he
  case configGroup | configProfile | configProfileTablePart | configLimits | configTiming | configInputs =>
    exact request_shared_of_fq _ _ _ h (fun _ => offer_shared) fun u => u.configure_fq _ _
  case commit => exact doCommit_shared _ _ h
  case restart => exact doRestart_shared _ _ h
  case load => exact request_shared_of_fq _ _ _ h (fun _ => finish_shared) fun u => u.loadAct_fq _ _
  case flush => exact request_shared_of_fq _ _ _ h (fun _ => offer_shared) flushAct_fq
  case stop => exact doStop_shared _ _ _ h
  case resume => exact request_shared_of_fq _ _ _ h (fun _ => finish_shared) resumeAct_fq
  case setpos => exact request_shared_of_fq _ _ _ h (fun _ => offer_shared) (setposAct_fq _)
  case scale => exact request_shared_of_fq _ _ _ h (fun _ => offer_shared) (scaleAct_fq _)
  case queryNode => exact request_shared_of_fq _ _ _ h (fun _ => offer_shared) fun _ => rfl
  case queryGroup => exact request_shared_of_fq _ _ _ h (fun _ => offer_shared) fun u => by rw [u.queryGroupAct_fst]
  case queryQueue => exact request_shared_of_fq _ _ _ h (fun _ => offer_shared) fun u => by rw [u.queryQueueAct_fst]
  case readyTaken =>
    exact takeHeard_shared _ _ _ h (fun u => ⟨u.readyTake_keepsFlight _ _ _, by simp⟩) fun _ => readyTake_fits _ _ _
  case withdrawTaken =>
    exact takeHeard_shared _ _ _ h (fun u => ⟨u.withdrawTake_keepsFlight _ _ _, by simp⟩) fun _ => withdrawTake_fits _ _ _
  case haltTaken =>
    exact takeHeard_shared _ _ _ h (fun u => ⟨u.haltTake_keepsFlight _ _ _, by simp⟩) fun _ => haltTake_fits _ _ _
  case markTaken =>
    exact takeHeard_shared _ _ _ h (fun _ => .of_eq (by simp) (by simp)) fun _ => markTake_fits _ _ _ _
  case beaconTaken => exact takeFrom_shared _ _ h fun _ hu => finish_shared (hear_shared _ _ hu)
  case groupScaleTaken =>
    refine takeFrom_shared _ _ h fun u hu => offer_shared ?_
    exact (hear_shared _ .alive hu).of_frame (groupScaleTake_frame _ _ _).2 (groupScaleTake_frame _ _ _).1
  case replyFrameTaken => exact takeFrom_shared _ _ h fun _ hu => offer_shared (hear_shared _ _ hu)
  case malformedFrameTaken | frameRejectedInSlot => cases hb
  case ownFrameTaken => exact ownTaken_shared h
  case lostInArbitration => exact attemptLost_shared h
  case rejected | discarded => exact ownRejected_shared _ h
  case refusedAsBusy | dropped => exact ownBusy_shared h
  case busIdle => exact idle_shared h
  case leadStep => exact leadStep_shared (slotPassed_shared _ h)
  case rollTimeout => exact rollExpires_shared (slotPassed_shared _ h)
  case gateWaitTimerExpires => exact gateExpires_shared (slotPassed_shared _ h)
  case silenceTimerExpires => exact silenceExpires_shared _ (slotPassed_shared _ h)
  case beaconTimerExpires => exact beaconExpires_shared h
  case listenTimerExpires => exact listenExpires_shared h
  case limitAsserted => exact assertion_shared _ (slotPassed_shared _ h) fun _ => limitDelivered_shared _
  case dalmAsserted | stopinAsserted => exact assertion_shared _ (slotPassed_shared _ h) fun _ => driveStop_shared _
  case homeAsserted => exact assertion_shared _ (slotPassed_shared _ h) fun _ => homeDelivered_shared
  case inputChangeInactive =>
    unfold inactive
    split
    · exact h
    · exact h.of_frame
  case resetAsserted | powerOn => exact .of_unreserved FrameQueue.fits_powerOn rfl
  case lineLevelChange =>
    unfold lineChange
    split
    · exact h
    · exact h.of_frame rfl rfl
  case dominantBitOutsideFrame => exact dominantBit_shared h

/-! ## A frame read from the bus -/

/-- A malformed frame is answered only where its slot found room, and an entry reserved for one that is not answered is
released (R141, R149, R156). -/
theorem malformed_released_shared (r : Sys2Proof.RawFrame) (h : s.fq.Fits)
    (hr : RawFrame.asksReply r s.self = true → s.hasRoom = true) : (s.malformed r).released.Shared := by
  refine released_shared ?_
  unfold malformed
  dsimp only
  split
  · rename_i ha
    have hroom := count_lt_of_hasRoom h (hr (Bool.and_eq_true_iff.mp ha).1)
    exact (h.reserve hroom).fill rfl hroom
  · exact h

theorem takeReading_shared (r : Sys2Proof.RawFrame) (h : s.Shared)
    (hr : RawFrame.asksReply r s.self = true → s.hasRoom = true) (hf : r.source.toNat ≠ s.self → s.fq.inFlight = []) :
    (s.takeReading r).Shared := by
  rcases s.takeReading_cases r with he | he | ⟨src, num, he⟩ | ⟨src, num, he⟩ | ⟨i, hi, he⟩
  · rwa [he]
  · rw [he]
    refine takeHeld_shared h fun hsrc => ?_
    rw [attemptLost_of_flight (hf hsrc)]
    exact malformed_released_shared (s := s.afterSlot _) r h.fits hr
  · rw [he]
    exact request_shared_of_fq _ _ _ h (fun _ => offer_shared) fun u => u.configure_fq _ _
  · rw [he]
    exact request_shared_of_fq _ _ _ h (fun _ => offer_shared) fun _ => rfl
  · exact exec_shared_of_not_bits hi h he

theorem receive_shared (r : Sys2Proof.RawFrame) (h : s.Shared) : (s.receive r).Shared := by
  have hread {u : State} (own : Bool) (hu : u.Shared) (hf : r.source.toNat ≠ u.self → u.fq.inFlight = []) :
      (if u.slotMark r = SlotMarks.none then u.takeReading r else u.slotRejects own (u.slotMark r)).Shared := by
    split
    · exact takeReading_shared r hu (hasRoom_of_slotMark ‹_›) hf
    · exact slotRejects_shared _ _ hu.fits
  unfold receive
  split
  · exact afterSlot_shared_of_offline _ h ‹_›
  · split
    · exact ownTaken_shared h
    · by_cases hsrc : r.source.toNat = s.self
      · simp only [hsrc, decide_true, if_true]
        exact hread true h fun hne => absurd hsrc hne
      · simp only [hsrc, decide_false, Bool.false_eq_true, if_false]
        exact hread false (attemptLost_shared h) fun _ => s.attemptLost_flight

theorem rejectedInSlot_shared (r : Sys2Proof.RawFrame) (h : s.Shared) : (s.rejectedInSlot r).Shared := by
  unfold rejectedInSlot
  split
  · exact afterSlot_shared_of_offline _ h ‹_›
  · refine slotRejects_shared _ _ ?_
    split
    · exact h.fits
    · exact attemptLost_fits h.fits

/-- Every command keeps the shares and the reservation. -/
theorem exec_shared {c : Sys2Proof.Instr} (h : s.Shared) (he : exec c s = .next t) : t.Shared := by
  cases hb : readsBits c with
  | false => exact exec_shared_of_not_bits hb h he
  | true =>
    cases c
    case malformedFrameTaken r =>
      cases he
      exact receive_shared r h
    case frameRejectedInSlot r =>
      cases he
      exact rejectedInSlot_shared r h
    all_goals cases hb

end State

/-- Settles O54: a frame joins only a share with room beside the entry reserved, and what ends a slot releases that entry. -/
theorem sharesKept : Obligations.SharesKept := fun _ s t h he =>
  t.sharesOk_iff.mpr (State.exec_shared (s.sharesOk_iff.mp h.shares) he)

end Sys2Proof.Machine
end

section
/-! QUERY: the STATUS of the node, of a group and of the queue (R4, R157, R159 to R161). -/

-- One proof after another: elaborated side by side they need more threads than the check allows.
set_option deprecated.oldSectionVars true

namespace Sys2Proof.Machine

namespace State

/-! ## A request that changes nothing -/

/-- A request that changes nothing is answered, and nothing else follows (R157). -/
theorem request_answered {s : State} {src : Addr} (h : s.takesRequest src) (num : Nat) (k : RequestKind)
    {act : State → State × Reply} {r : Reply} (ha : act (s.opened src) = (s.opened src, r)) :
    s.request src num k act offer = s.answered src (r.frame src num k.code) := by
  rw [request_of_takes h, ha]
  exact offer_of_not_idle (by simp [opened_fill, answered_idleCount])

/-- A frame that shows only that its sender is alive changes no presence and no last announced state (R109). -/
theorem opened_peerEntry (s : State) (src a : Addr) :
    (s.opened src).peerEntry a =
      (s.peerEntry a).map fun e => if e.addr = src then { e with timer := some s.timing.loss } else e := by
  refine List.find?_map.trans (congrArg (Option.map _) (congrFun (congrArg List.find? (funext fun e => ?_)) _))
  simp only [Function.comp_apply]
  split <;> rfl

theorem opened_peersThat (s : State) (src : Addr) (p : Presence) : (s.opened src).peersThat p = s.peersThat p := by
  refine List.countP_map.trans (congrFun (congrArg List.countP (funext fun e => ?_)) _)
  simp only [Function.comp_apply]
  split <;> rfl

theorem opened_memberLine (s : State) (src : Addr) : (s.opened src).memberLine = s.memberLine := by
  funext r
  have hself : (s.opened src).self = s.self := rfl
  have hstate : (s.opened src).mc.state = s.mc.state := rfl
  unfold memberLine
  rw [hself, hstate, opened_peerEntry]
  cases s.peerEntry r.addr with
  | none => rfl
  | some e =>
    simp only [Option.map_some]
    split
    · rfl
    · split <;> rfl

theorem opened_nodeStatus (s : State) (src : Addr) : (s.opened src).nodeStatus = s.nodeStatus := by
  simp only [nodeStatus, opened_peersThat]
  rfl

theorem opened_groupStatus (s : State) (src : Addr) (e : GroupEntry) (i : Nat) :
    (s.opened src).groupStatus e i = s.groupStatus e i := by
  rw [groupStatus, opened_memberLine, groupStatus]

/-! ## The planned end (R4) -/

theorem plannedEnd_eq_none_iff (s : State) : s.plannedEnd = none ↔ ∃ m ∈ s.mc.queue, m.kind = .seek := by
  unfold plannedEnd
  split <;> simp_all

/-- The planned end of an empty queue is the position (R4). -/
theorem plannedEnd_of_empty {s : State} {x : Int} (hx : s.plannedEnd = some x) (hq : s.mc.queue = []) :
    x = s.lead.position := by
  rw [plannedEnd, head, hq] at hx
  simpa using hx.symm

/-- The planned end counts what the head still has to go and the entries behind it (R4). -/
theorem plannedEnd_of_head {s : State} {x : Int} {m : Move} {rest : List Move} (hx : s.plannedEnd = some x)
    (hq : s.mc.queue = m :: rest) :
    x = s.lead.position + (if s.mc.state.moving = true then m.dist - signedPulses m.dist s.lead.pulses else m.dist) +
      (rest.map (·.dist)).sum := by
  unfold plannedEnd head at hx
  split at hx
  · cases hx
  · simp only [hq, List.head?_cons, List.map_cons, List.sum_cons, Option.some.injEq] at hx
    subst hx
    split <;> omega

/-- The lines of a STATUS of the queue: the head of a moving node counts no gates, and every other entry those with no REACHED
record (R161). -/
theorem queueLines_eq (s : State) :
    let gates := fun m : Move => m.gates.countP fun g => !g.satisfied s.gate.marks
    let line := fun (open? : Move → Nat) (m : Move) =>
      ({ tag := m.tag, group := m.group, kind := m.kind, dist := m.dist, openGates := open? m,
         withdrawn := m.withdrawnBy } : QueueLine)
    s.queueLines = match s.mc.queue with
      | [] => []
      | m :: rest => line (if s.mc.state.moving = true then fun _ => 0 else gates) m :: rest.map (line gates) := by
  unfold queueLines queueLine openGates
  cases s.mc.queue with
  | nil => rfl
  | cons m rest => cases s.mc.state.moving <;> rfl

end State

/-- Settles O36: each subject's contents are read from the state, which the request leaves as it is. -/
theorem queriesAnswer : Obligations.QueriesAnswer := by
  intro src num s h peers moving
  have hmoving : s.mc.state.moving = true ↔ moving := by simp [NodeState.moving_eq, moving]
  refine ⟨?_, s.plannedEnd_eq_none_iff, fun x hx => ⟨State.plannedEnd_of_empty hx, fun m rest hq => ?_⟩, fun i => ?_,
    fun g i => ?_⟩
  · refine congrArg Host.Outcome.next ((State.request_answered h num .query rfl).trans ?_)
    rw [State.opened_nodeStatus, State.nodeStatus, if_congr hmoving rfl rfl]
    rfl
  · rw [State.plannedEnd_of_head hx hq, if_congr hmoving rfl rfl]
    rfl
  · have hrange : (!within 1 16 i) = true ↔ ¬(1 ≤ i ∧ i ≤ 16) := by
      rw [Bool.not_eq_true', ← Bool.not_eq_true, within_eq_true_iff]
    refine congrArg Host.Outcome.next ?_
    split
    · rename_i hbad
      refine State.request_refused h num .query _ ?_
      rw [State.queryQueueAct, if_pos (hrange.mpr hbad)]
    · rename_i hok
      refine (State.request_answered h num .query (r := .status (.queue (s.queueStatus i))) ?_).trans ?_
      · rw [State.queryQueueAct, if_neg (mt hrange.mp hok)]
        rfl
      · rw [State.queueStatus, State.queueLines_eq, if_congr hmoving rfl rfl]
        rfl
  · have hrange : (!(within 1 62 g && within 1 30 i)) = true ↔ ¬(1 ≤ g ∧ g ≤ 62 ∧ 1 ≤ i ∧ i ≤ 30) := by
      rw [Bool.not_eq_true', ← Bool.not_eq_true, Bool.and_eq_true, within_eq_true_iff, within_eq_true_iff, and_assoc]
    have hentry : (s.opened src).groupEntry g = s.groupEntry g := rfl
    refine ⟨fun hbad => ?_, fun hok hnone => ?_, fun e hok he => ?_⟩
    · refine congrArg Host.Outcome.next (State.request_refused h num .query _ ?_)
      rw [State.queryGroupAct, if_pos (hrange.mpr hbad)]
    · refine congrArg Host.Outcome.next (State.request_refused h num .query _ ?_)
      rw [State.queryGroupAct, if_neg (mt hrange.mp (not_not.mpr hok)), hentry, hnone]
    · refine congrArg Host.Outcome.next
        (State.request_answered h num .query (r := .status (.group (s.groupStatus e i))) ?_)
      rw [State.queryGroupAct, if_neg (mt hrange.mp (not_not.mpr hok)), hentry, he]
      exact congrArg (fun b => (s.opened src, Reply.status (.group b))) (s.opened_groupStatus src e i)

end Sys2Proof.Machine
end

section
/-! This node's own frame taken: its entry leaves the queue, and the block that queued it acts (R12, R18, R29 to R37, R42,
R43, R52, R86, R96, R118, R153 to R156). -/

-- One proof after another: elaborated side by side they need more threads than the check allows.
set_option deprecated.oldSectionVars true

namespace Sys2Proof.Machine

/-! ## The take -/

/-- The state once this node's own frame was taken, before it is acted on: the slot has ended, the consecutive-reject count
is 0 and the beacon timer restarts (R118, R143). -/
def State.ownHeard (s : State) : State :=
  { s with
    link := { s.link with idleCount := 0, inFrame := false, rejects := 0, marks := SlotMarks.none }
    peer := { s.peer with beaconTimer := some s.timing.beacon } }

/-- That state once the entry of the frame has left (R153). -/
def State.ownLeft (s : State) (before after : List Entry) : State :=
  { s.ownHeard with fq := { s.fq with entries := before ++ after } }

section

variable {s : State} {before after : List Entry} {e : Entry}

theorem State.ownTaken_of_sending (h : s.fq.sending = some e) (hr : s.fq.reserved = false) :
    s.ownTaken = (s.ownHeard.ownDispatch e.frame).finish := by
  rw [State.ownTaken, h]
  dsimp only
  rw [State.unreserved_of_none (s := s.afterSlot _) hr]
  rfl

/-- A reservation still standing is released before the frame is acted on (R156). -/
theorem State.ownTaken_slotOver (h : s.fq.sending = some e) (hr : s.fq.reserved = true) (hc : s.fq.count .reply < 4) :
    s.ownTaken = s.slotOver.ownTaken := by
  rw [State.ownTaken, State.ownTaken, h, s.slotOver_sending.trans h]
  dsimp only
  rw [State.afterSlot_unreserved_slotOver hr hc]

theorem State.ownHeard_endSending (h : s.fq.Sends before e after) :
    s.ownHeard.updFq FrameQueue.endSending = s.ownLeft before after := by
  rw [State.ownLeft, ← h.endSending]
  rfl

theorem State.ownLeft_count (h : s.fq.Sends before e after) (k : FrameClass) :
    (s.ownLeft before after).fq.count k + (if e.frame.cls = k then 1 else 0) = s.fq.count k :=
  State.withoutSent_count h k

/-- A frame that is no reply leaves the REPLY share as it was (R156). -/
theorem State.ownLeft_free (h : s.fq.Sends before e after) (hc : e.frame.cls ≠ .reply) :
    (s.ownLeft before after).fq.free = s.fq.free :=
  FrameQueue.free_congr (by simpa [hc] using State.ownLeft_count h .reply) rfl

/-- A frame of another class than URGENT leaves that share as it was (R150). -/
theorem State.ownLeft_urgent (h : s.fq.Sends before e after) (hc : e.frame.cls ≠ .urgent) :
    (s.ownLeft before after).fq.count .urgent = s.fq.count .urgent := by
  simpa [hc] using State.ownLeft_count h .urgent

/-- Nothing follows a frame that is neither a HALT nor a reply and leaves the Move Controller and the records as they are. -/
theorem State.finish_of_ownLeft (h : s.fq.Sends before e after) (hset : s.settled) (hu : e.frame.cls ≠ .urgent)
    (hc : e.frame.cls ≠ .reply) {t : State} (hl : t.link.idleCount = 0) (hmc : t.mc = s.mc)
    (hg : t.gate.marks = s.gate.marks) (hq : t.fq = (s.ownLeft before after).fq) : t.finish = t := by
  refine State.finish_of_quiet hset hl hmc hg ?_ ?_
  · rw [hq, State.ownLeft_free h hc]
  · rw [hq, State.ownLeft_urgent h hu]

/-- Nothing follows a frame of another class than URGENT that leaves the node in another state than PENDING. -/
theorem State.finish_of_ownLeft_of_not_pending (h : s.fq.Sends before e after) (hset : s.settled)
    (hu : e.frame.cls ≠ .urgent) {t : State} (hl : t.link.idleCount = 0) (hd : t.mc.linkDue = s.mc.linkDue)
    (hp : t.mc.state ≠ .pending) (hn : t.mc.notices = s.mc.notices)
    (hq : t.fq.count .urgent = (s.ownLeft before after).fq.count .urgent) : t.finish = t := by
  refine State.finish_of_settled_of_not_idle ?_ (by simp [hl])
  exact hset.of_not_pending (hd.trans hset.1) hp hn (hq.trans (State.ownLeft_urgent h hu))

/-! ## BEACON, reply, WITHDRAW, MARK -/

theorem State.ownTaken_beacon (h : s.fq.Sends before e after) (hset : s.settled) (hr : s.fq.reserved = false)
    (hc : e.frame.cls = .beacon) : s.ownTaken = s.ownLeft before after := by
  have hact : s.ownHeard.ownDispatch e.frame = s.ownLeft before after := by
    rw [← State.ownHeard_endSending h]
    cases hf : e.frame <;> simp [hf, OutFrame.cls] at hc
    rfl
  rw [State.ownTaken_of_sending h.sending hr, hact]
  exact State.finish_of_ownLeft h hset (by simp [hc]) (by simp [hc]) rfl rfl rfl rfl

/-- The entry that this node's own reply frees goes to a record that waits (R18, R153). -/
theorem State.ownTaken_reply (h : s.fq.Sends before e after) (hr : s.fq.reserved = false) (hc : e.frame.cls = .reply)
    (hle : s.fq.count .reply ≤ 4) : s.ownTaken = (s.ownLeft before after).entryFreed.finish := by
  have hfree : 0 < (s.ownLeft before after).fq.free := by
    have : (s.ownLeft before after).fq.free = 5 - s.fq.count .reply := State.withoutSent_free h hc hle hr
    omega
  have hact : s.ownHeard.ownDispatch e.frame = (s.ownLeft before after).replyFreed := by
    rw [← State.ownHeard_endSending h]
    cases hf : e.frame <;> simp [hf, OutFrame.cls] at hc <;> rfl
  rw [State.ownTaken_of_sending h.sending hr, hact, State.replyFreed_eq_entryFreed hfree]

theorem State.ownTaken_reply_of_no_record (h : s.fq.Sends before e after) (hset : s.settled)
    (hc : e.frame.cls = .reply) (hw : s.mc.record = none) (hp : s.mc.state ≠ .pending) :
    (s.ownLeft before after).entryFreed.finish = s.ownLeft before after := by
  rw [State.entryFreed_of_no_record (s := s.ownLeft before after) hw]
  exact State.finish_of_ownLeft_of_not_pending h hset (by simp [hc]) rfl rfl hp rfl rfl

/-- This node's own WITHDRAW acts on the roll of its group only (R30, R39). -/
theorem State.withdrawTake_self {g : GroupNo} {x : GroupEntry} (hx : s.groupEntry g = some x) (hm : s.self ∈ x.members)
    (t : Tag) : s.withdrawTake s.self g t = s.updGroup g (·.emptyTag t) := by
  rw [State.withdrawTake, hx]
  exact (if_pos hm).trans (if_pos rfl)

theorem State.ownTaken_withdraw (h : s.fq.Sends before e after) (hset : s.settled) (hr : s.fq.reserved = false)
    {g : GroupNo} {t : Tag} {c : Cause} (hf : e.frame = .withdraw g t c) {roll : RollUnit}
    (hact : s.ownHeard.withdrawTake s.self g t = { s.ownHeard with roll := roll }) :
    s.ownTaken = { s.ownLeft before after with roll := roll } := by
  have hdispatch : s.ownHeard.ownDispatch e.frame = { s.ownLeft before after with roll := roll } := by
    rw [hf, ← State.ownHeard_endSending h]
    exact congrArg (State.updFq · FrameQueue.endSending) hact
  rw [State.ownTaken_of_sending h.sending hr, hdispatch]
  exact State.finish_of_ownLeft h hset (by simp [hf, OutFrame.cls]) (by simp [hf, OutFrame.cls]) rfl rfl rfl rfl

/-- This node's own MARK changes the Gate Unit only (R52). -/
theorem State.ownTaken_mark (h : s.fq.Sends before e after) (hr : s.fq.reserved = false) {t : Tag} {n : Nat}
    {o : MarkOutcome} (hf : e.frame = .mark t n o) {gate : GateUnit}
    (hact : s.ownHeard.markTake s.self t n o = { s.ownHeard with gate := gate }) :
    s.ownTaken = ({ s.ownLeft before after with gate := gate } : State).finish := by
  have hdispatch : s.ownHeard.ownDispatch e.frame = { s.ownLeft before after with gate := gate } := by
    rw [hf, ← State.ownHeard_endSending h]
    exact congrArg (State.updFq · FrameQueue.endSending) hact
  rw [State.ownTaken_of_sending h.sending hr, hdispatch]

/-! ## HALT -/

/-- This node's own HALT empties the roll, its notice leaves the list, and the next WAITING one is queued (R86, R94, R96). -/
theorem State.ownTaken_halt (h : s.fq.Sends before e after) (hset : s.settled) (hr : s.fq.reserved = false) {g : GroupNo}
    {k : HaltKind} {c : Cause} {tag : Tag} {n : Notice} (hf : e.frame = .halt g k c tag) (hn : s.noticeFor g = some n) :
    s.ownTaken = (({ s.ownLeft before after with
      mc := { s.mc with notices := withoutNotice g s.mc.notices ++ upgradeAfterTake n } } : State).updGroup g
        (·.emptyAll)).fillUrgent := by
  have hdispatch : s.ownHeard.ownDispatch e.frame = ({ s.ownLeft before after with
      mc := { s.mc with notices := withoutNotice g s.mc.notices ++ upgradeAfterTake n } } : State).updGroup g
        (·.emptyAll) := by
    have hfor : ((s.ownHeard.updGroup g (·.emptyAll)).updFq FrameQueue.endSending).noticeFor g = some n := hn
    rw [hf, State.ownDispatch, State.noticeTaken, hfor, State.ownLeft, ← h.endSending]
    rfl
  rw [State.ownTaken_of_sending h.sending hr, hdispatch, State.finish, State.settle_of_not_ready]
  · exact State.offer_of_not_idle (by simp [State.ownLeft, State.ownHeard])
  · exact hset.1
  · intro hp m hm
    rw [← hset.2.1 hp m hm]
    exact State.readyFor_congr m rfl (State.ownLeft_free h (by simp [hf, OutFrame.cls])) rfl

end

end Sys2Proof.Machine
end

section
/-! This node's own READY taken: the roll is judged, and then the causes kept are decided on (R29, R34, R37, R42, R43). -/

-- One proof after another: elaborated side by side they need more threads than the check allows.
set_option deprecated.oldSectionVars true

namespace Sys2Proof.Machine

/-! ## The roll judged -/

/-- This node's own READY for its announced head is entered in the roll, which is judged in the order of R29. -/
theorem State.readyTake_of_own {s : State} {g : GroupNo} {x : GroupEntry} {t : Tag} (hx : s.groupEntry g = some x)
    (hm : s.self ∈ x.members) (hs : s.mc.state = .announcing) (hh : s.headIs g t = true) :
    s.readyTake s.self g t =
      if (x.write s.self (some t)).complete t then (s.updGroup g (·.write s.self (some t))).startEvent g t
      else if (s.updGroup g (·.write s.self (some t))).mismatched g then
        (s.updGroup g (·.write s.self (some t))).giveUp .failed .tagMismatch []
      else (s.updGroup g (·.write s.self (some t))).updMc fun c => { c with state := .armed } := by
  have harmed : s.self = s.self ∧ s.mc.state = .announcing ∧ s.headIs g t = true := ⟨rfl, hs, hh⟩
  unfold State.readyTake
  rw [hx]
  dsimp only
  rw [if_pos hm, if_pos harmed]

/-- The state once this node's own READY was taken and its entry has left, before the causes kept are decided on (R29,
R42). -/
def State.readyLeft (s : State) (g : GroupNo) (t : Tag) : State :=
  ((s.ownHeard.updMc fun m => { m with kept := [] }).readyTake s.self g t).updFq FrameQueue.endSending

/-- The state with this node's own entry written in the roll of the group, the causes kept taken up (R28, R42). -/
def State.ownWritten (s : State) (g : GroupNo) (t : Tag) : State :=
  (s.ownHeard.updMc fun m => { m with kept := [] }).updGroup g (·.write s.self (some t))

/-- This node sends the READY of its announced head `m` of group `g`, whose entry of the group table is `x` (R32). -/
structure State.SendsOwnReady (s : State) (before : List Entry) (e : Entry) (after : List Entry) (g : GroupNo) (m : Move)
    (rest : List Move) (x : GroupEntry) : Prop where
  sends  : s.fq.Sends before e after
  frame  : e.frame = .ready g m.tag
  state  : s.mc.state = .announcing
  queue  : s.mc.queue = m :: rest
  group  : m.group = some g
  entry  : s.groupEntry g = some x
  member : s.self ∈ x.members

theorem FrameQueue.endSending_removeQueued (q : FrameQueue) (pick : OutFrame → Bool) :
    (q.removeQueued pick).endSending =
      { q.endSending with entries := q.endSending.entries.filter fun x => !pick x.frame } := by
  simp only [FrameQueue.removeQueued, FrameQueue.endSending, List.filter_filter]
  refine congrArg (FrameQueue.mk · q.reserved) (List.filter_congr fun x _ => ?_)
  cases x.status <;> simp

section

variable {s : State} {before after : List Entry} {e : Entry} {g : GroupNo} {m : Move} {rest : List Move} {x : GroupEntry}

theorem State.ownHeard_mid (h : s.mid) : s.ownHeard.mid :=
  State.restartBeacon_mid (s := (s.afterSlot SlotMarks.none).updLink fun l => { l with rejects := 0 })
    (State.updLink_mid (State.afterSlot_mid h _) rfl)

namespace State.SendsOwnReady

theorem isReady (h : s.SendsOwnReady before e after g m rest x) : e.frame.isReady = true := by
  rw [h.frame]
  rfl

theorem announced (h : s.SendsOwnReady before e after g m rest x) : s.mc.state.announced = true := by
  rw [h.state]
  rfl

theorem cls (h : s.SendsOwnReady before e after g m rest x) : e.frame.cls = .sync := by
  rw [h.frame]
  rfl

theorem inFlight (h : s.SendsOwnReady before e after g m rest x) (hm : s.mid) : s.fq.inFlight = [e] :=
  hm.sending_some h.sends.sending

theorem readyLeft_mid (h : s.SendsOwnReady before e after g m rest x) (hm : s.mid) : (s.readyLeft g m.tag).mid :=
  State.own_readyTake_mid (State.keptTaken_mid (State.ownHeard_mid hm)) (h.inFlight hm) h.frame rfl

theorem ownTaken (h : s.SendsOwnReady before e after g m rest x) (hr : s.fq.reserved = false) :
    s.ownTaken = ((s.readyLeft g m.tag).decideKept s.mc.kept).finish := by
  rw [State.ownTaken_of_sending h.sends.sending hr, h.frame]
  rfl

/-- The take of this node's own READY writes its entry, and the roll is judged (R29). -/
theorem readyTake (h : s.SendsOwnReady before e after g m rest x) :
    s.readyLeft g m.tag =
      (if (x.write s.self (some m.tag)).complete m.tag then (s.ownWritten g m.tag).startEvent g m.tag
      else if (s.ownWritten g m.tag).mismatched g then (s.ownWritten g m.tag).giveUp .failed .tagMismatch []
      else (s.ownWritten g m.tag).updMc fun c => { c with state := .armed }).updFq FrameQueue.endSending := by
  have hentry : (s.ownHeard.updMc fun m => { m with kept := [] }).groupEntry g = some x := h.entry
  have hhead : (s.ownHeard.updMc fun m => { m with kept := [] }).headIs g m.tag = true :=
    (State.headIs_iff _ g m.tag).mpr ⟨m, congrArg List.head? h.queue, h.group, rfl⟩
  exact congrArg (State.updFq · FrameQueue.endSending) (State.readyTake_of_own hentry h.member h.state hhead)

theorem complete_iff (x : GroupEntry) (self : Addr) (t : Tag) :
    (x.write self (some t)).complete t = true ↔ ∀ r ∈ x.roll, r.addr ≠ self → r.tag = some t := by
  simp only [GroupEntry.write_complete_iff, or_iff_not_imp_left, ne_eq]

theorem mismatched_iff (h : s.SendsOwnReady before e after g m rest x) :
    (s.ownWritten g m.tag).mismatched g = true ↔
      ∃ r ∈ x.roll, r.addr ≠ s.self ∧ ∃ y ∈ r.tag, y ≠ m.tag := by
  have hentry : (s.ownWritten g m.tag).groupEntry g = some (x.write s.self (some m.tag)) :=
    (State.groupEntry_updGroup _ g (f := (·.write s.self (some m.tag))) fun _ => rfl).trans
      (congrArg (Option.map _) h.entry)
  have hself (r : RollEntry) : r.addr ≠ s.self →
      (if r.addr = s.self then { r with tag := some m.tag } else r) = r := fun hr => if_neg hr
  have hroll : (x.write s.self (some m.tag)).mismatch s.self m.tag = true ↔
      ∃ r ∈ x.roll, r.addr ≠ s.self ∧ ∃ y ∈ r.tag, y ≠ m.tag := by
    rw [GroupEntry.write_mismatch_iff]
    refine exists_congr fun r => and_congr_right fun _ => and_congr_right fun hr => ?_
    rw [hself r hr]
  rw [State.mismatched_iff hentry, ← hroll]
  refine ⟨?_, fun hmis => ⟨m, ⟨h.announced, congrArg List.head? h.queue, h.group⟩, hmis⟩⟩
  rintro ⟨m', ⟨-, hm', -⟩, hmis⟩
  obtain rfl : m = m' := Option.some.inj ((congrArg List.head? h.queue).symm.trans hm')
  exact hmis

/-- A READY that completes the roll empties it and starts the head (R34). -/
theorem readyLeft_of_complete (h : s.SendsOwnReady before e after g m rest x)
    (hc : ∀ r ∈ x.roll, r.addr ≠ s.self → r.tag = some m.tag) :
    s.readyLeft g m.tag = State.startMove m
      { s.ownLeft before after with
        fq := { s.fq with entries := (before ++ after).filter fun y => !y.frame.isReady }
        roll := { s.roll with groups := s.roll.groups.map fun y =>
          if y.number = g then { y with roll := y.roll.map fun r =>
            if r.addr = s.self ∨ r.tag = some m.tag then { r with tag := none } else r } else y } } := by
  have hhead : (s.ownWritten g m.tag).headIs g m.tag = true :=
    (State.headIs_iff _ g m.tag).mpr ⟨m, congrArg List.head? h.queue, h.group, rfl⟩
  have hroll : (s.ownWritten g m.tag).updGroup g (·.emptyTag m.tag) =
      (s.ownHeard.updMc fun m => { m with kept := [] }).updGroup g fun y =>
        { y with roll := y.roll.map fun r => if r.addr = s.self ∨ r.tag = some m.tag then { r with tag := none } else r } := by
    refine (State.updGroup_updGroup _ g (f := (·.write s.self (some m.tag))) fun _ => rfl).trans ?_
    simp only [GroupEntry.write_emptyTag]
  have hfq : (s.fq.removeQueued OutFrame.isReady).endSending =
      { s.fq with entries := (before ++ after).filter fun y => !y.frame.isReady } := by
    rw [FrameQueue.endSending_removeQueued, h.sends.endSending]
  have hstart := (s.ownWritten g m.tag).startEvent_of_head (m := m) h.announced hhead (congrArg List.head? h.queue)
  rw [h.readyTake, if_pos ((complete_iff x s.self m.tag).mpr hc), hstart, hroll, ← hfq]
  rfl

/-- A READY with another member's entry still empty and none naming another tag makes the node ARMED (R29). -/
theorem readyLeft_of_open (h : s.SendsOwnReady before e after g m rest x)
    (hc : ¬∀ r ∈ x.roll, r.addr ≠ s.self → r.tag = some m.tag)
    (hm : ¬∃ r ∈ x.roll, r.addr ≠ s.self ∧ ∃ y ∈ r.tag, y ≠ m.tag) :
    s.readyLeft g m.tag =
      ({ s.ownLeft before after with mc := { s.mc with state := .armed, kept := [] } } : State).updGroup g
        (·.write s.self (some m.tag)) := by
  rw [h.readyTake, if_neg (mt (complete_iff x s.self m.tag).mp hc), if_neg (mt h.mismatched_iff.mp hm),
    State.ownLeft, ← h.sends.endSending]
  rfl

/-- A READY whose take shows a mismatch gives up the head, and then its entry leaves (R37, R153). -/
theorem readyLeft_of_mismatch (h : s.SendsOwnReady before e after g m rest x)
    (hm : ∃ r ∈ x.roll, r.addr ≠ s.self ∧ ∃ y ∈ r.tag, y ≠ m.tag) :
    s.readyLeft g m.tag =
      ((s.ownWritten g m.tag).giveUp .failed .tagMismatch []).updFq FrameQueue.endSending := by
  have hc : ¬∀ r ∈ x.roll, r.addr ≠ s.self → r.tag = some m.tag := by
    obtain ⟨r, hr, hself, y, hy, hne⟩ := hm
    exact fun hall => hne (Option.some.inj ((Option.mem_def.mp hy).symm.trans (hall r hr hself)))
  rw [h.readyTake, if_neg (mt (complete_iff x s.self m.tag).mp hc), if_pos (h.mismatched_iff.mpr hm)]

end State.SendsOwnReady

end

end Sys2Proof.Machine
end

section
/-! The causes kept during the READY's transmission, decided on once it was taken (R37, R42, R43). -/

-- One proof after another: elaborated side by side they need more threads than the check allows.
set_option deprecated.oldSectionVars true

namespace Sys2Proof.Machine

/-! ## A move stopped at its start -/

/-- The first cause kept but for roll timeouts stops the move: a limit is LIMIT there (R42). -/
theorem State.decideKept_of_stops {s : State} {kept later : List Cause} {k : Cause} (hs : s.mc.state = .running)
    (hf : (kept.filter fun x => decide (x ≠ .rollTimeout)) = k :: later)
    (hk : k ∈ [Cause.limitActive, .driveAlarm, .stopInput]) :
    s.decideKept kept = (s.stopMove (if k = .limitActive then .limit else k) false).addCauses later := by
  unfold State.decideKept
  rw [hs]
  dsimp only
  rw [hf]
  dsimp only
  simp only [List.mem_cons, List.not_mem_nil, or_false] at hk
  rcases hk with rfl | rfl | rfl <;> rfl

/-- Roll timeouts are dropped once the move has started (R42, R43). -/
theorem State.decideKept_of_dropped {s : State} {kept : List Cause} (hs : s.mc.state = .running)
    (hk : ∀ k ∈ kept, k = .rollTimeout) : s.decideKept kept = s := by
  unfold State.decideKept
  rw [hs]
  dsimp only
  rw [List.filter_eq_nil_iff.mpr fun k hm => by simp [hk k hm]]

/-- A move in hand of a group is stopped at once with no HALT in transmission: it ends HALTED, its group is told NOW, and the
later causes join the set (R42, R73, R93, R97, R99). -/
theorem State.stopMove_addCauses_finish {s : State} {m : Move} {rest : List Move} {g : GroupNo} (h : s.mid)
    (hm : s.mc.state.moving = true) (hq : s.mc.queue = m :: rest) (hg : m.group = some g) (hsend : s.fq.sending = none)
    (c : Cause) (later : List Cause) :
    let v := ((s.stopMove c false).addCauses later).finish
    s.HeadEnded v m rest .halted c ∧ (∀ x ∈ later, holdsCause v.mc.causes x = true) ∧
      s.Told v g { kind := .now, cause := c, tag := m.tag } := by
  intro v
  have hstop := State.stopMove_of_short hq (h.lead_short hm hq) c false
  let u := s.stopLead.retire .halted (some c)
  have hended : s.HeadEnded (s.stopMove c false) m rest .halted c := by
    rw [hstop]
    exact (State.stop_headEnded hq (h.room (.inr hm)).1).notify _ _ _ _
  have htold : s.Told (s.stopMove c false) g { kind := .now, cause := c, tag := m.tag } := by
    have husend : u.fq.sending = none :=
      (FrameQueue.sending_congr (s.stopLead.retire_keepsReadies .halted _).flight).trans hsend
    have hfor : u.noticeFor g = s.noticeFor g := State.noticeFor_congr (by simp [u]) g
    rw [hstop, State.Told, State.notify, hg, ← hfor]
    exact State.raiseNotice_listed (FrameQueue.haltSending_of_sending husend g) _ _
  have hheld : ((s.stopMove c false).addCauses later).mc.state = .held := hended.addCauses.held
  refine ⟨hended.addCauses.finish, fun x hx => ?_, State.Told.finish ?_ hheld⟩
  · exact (State.finish_frame_of_held hheld).2.2.2.2.2.2 x ((s.stopMove c false).holdsCause_addCauses.2 x hx)
  · simpa [State.Told] using htold

/-- A group told NOW has a notice that is NOW (R96). -/
theorem State.Told.now {s v : State} {g : GroupNo} {n : NoticeContent} (h : s.Told v g n) (hn : n.kind = .now) :
    ∃ x ∈ v.mc.notices, x.group = g ∧ x.content.kind = .now ∧ (s.noticeFor g = none → x.content = n) := by
  obtain ⟨x, hx, hgroup, hnone, hsome⟩ := h
  refine ⟨x, hx, hgroup, ?_, hnone⟩
  cases hf : s.noticeFor g with
  | none => rw [hnone hf, hn]
  | some e => rw [hsome e hf, mergeContent_now hn]

/-! ## The SYNC share at the end of a head -/

theorem State.linkDue_voidAll {s : State} (t : Tag) (ms : List Marker) (h : s.mc.linkDue = true) :
    (s.voidAll t ms).mc.linkDue = true := by
  induction ms generalizing s with
  | nil => exact h
  | cons m ms ih => exact ih ((State.linkDue_queueSync s _).mpr (.inl h))

theorem State.report_count_sync (s : State) (w : WaitingRecord) : (s.report w).fq.count .sync = s.fq.count .sync := by
  unfold State.report
  split
  · simp [OutFrame.cls]
  · rfl

/-- The WITHDRAW of a failed group move that finds the SYNC share full makes the LINK cause due (R21, R155). -/
theorem State.linkDue_retire {s : State} {m : Move} {rest : List Move} {g : GroupNo} {c : Cause}
    (hq : s.mc.queue = m :: rest) (hg : m.group = some g) (hc : c ≠ .peerWithdrew) (hs : 6 ≤ s.fq.count .sync) :
    (s.retire .failed (some c)).mc.linkDue = true := by
  have hwithdraw (w : WaitingRecord) : ((s.report w).withdraw m .failed (some c)).mc.linkDue = true := by
    simp only [State.withdraw, hg, if_neg hc]
    exact (State.linkDue_queueSync _ _).mpr (.inr (by rwa [State.report_count_sync]))
  unfold State.retire
  rw [hq]
  exact State.linkDue_voidAll _ _ (hwithdraw _)

/-- A HELD node is given the LINK cause that is due (R101, R155). -/
theorem State.finish_holds_link {s : State} (h : s.mc.state = .held) (hd : s.mc.linkDue = true) :
    holdsCause s.finish.mc.causes .link = true := by
  have hgive : s.giveLink = (s.addCause .link).updMc fun m => { m with linkDue := false } := by
    rw [State.giveLink, if_pos hd, State.takeLink, State.linkCause, h]
  rw [State.finish_of_held h, hgive]
  simp only [State.offer_frame, State.fillUrgent_frame, State.updMc_mc]
  exact holdsCause_withCause _ _

/-! ## The entry in transmission leaves -/

/-- A frame other than the one in transmission stays in the queue when that one leaves it (R153). -/
theorem State.holdsFrame_endSending {s : State} {e : Entry} {f : OutFrame} (he : s.fq.inFlight = [e]) (hf : e.frame ≠ f)
    (h : s.holdsFrame f) : (s.updFq FrameQueue.endSending).holdsFrame f := by
  obtain ⟨x, hx, hxf⟩ := h
  refine ⟨x, List.mem_filter.mpr ⟨hx, decide_eq_true fun hs => hf ?_⟩, hxf⟩
  have hmem : x ∈ s.fq.inFlight := List.mem_filter.mpr ⟨hx, decide_eq_true hs⟩
  rw [he, List.mem_singleton] at hmem
  rw [← hmem, hxf]

theorem State.HeadEnded.endSending {s v : State} {m : Move} {rest : List Move} {o : RetireOutcome} {k : Cause} {e : Entry}
    (h : s.HeadEnded v m rest o k) (he : v.fq.inFlight = [e]) (hr : e.frame.isReady = true) :
    s.HeadEnded (v.updFq FrameQueue.endSending) m rest o k :=
  ⟨h.held, h.cause, h.queue, h.position, h.step,
    State.holdsFrame_endSending he (fun hf => by simp [hf, OutFrame.isReady] at hr) h.report, h.blocks, h.groups⟩

namespace State.SendsOwnReady

variable {s v : State} {before after : List Entry} {e : Entry} {g : GroupNo} {m : Move} {rest : List Move} {x : GroupEntry}
  {c : Cause}

theorem ownWritten_mid (hm : s.mid) : (s.ownWritten g m.tag).mid :=
  State.updGroup_mid (State.keptTaken_mid (State.ownHeard_mid hm)) g ((·.write s.self (some m.tag))) (fun _ => rfl)
    fun y => y.write_members _ _

/-- The READY in transmission is the only one (R32). -/
theorem others_not_ready (h : s.SendsOwnReady before e after g m rest x) (hm : s.mid) :
    ∀ y ∈ before ++ after, y.frame.isReady = false := by
  have hlen := (hm.own_ready (h.inFlight hm) h.frame).2.2.1
  have hnone : s.fq.endSending.readies = [] :=
    FrameQueue.sendsReady.readies_endSending ⟨h.inFlight hm, h.isReady, hlen.le⟩
  refine fun y hy => Bool.eq_false_iff.mpr fun hr => ?_
  have hmem : y.frame ∈ s.fq.endSending.readies :=
    FrameQueue.mem_readies.mpr ⟨hr, y, by rwa [h.sends.endSending], rfl⟩
  simp [hnone] at hmem

/-- No READY stands queued beside the one in transmission, so none leaves with the head (R37). -/
theorem removeReady (h : s.SendsOwnReady before e after g m rest x) (hm : s.mid) :
    s.fq.removeQueued OutFrame.isReady = s.fq := by
  refine congrArg (FrameQueue.mk · s.fq.reserved) (List.filter_eq_self.mpr fun y hy => ?_)
  rw [h.sends.entries, List.mem_append, List.mem_cons, or_left_comm, ← List.mem_append] at hy
  rcases hy with rfl | hy
  · simp [h.sends.sent]
  · simp [h.others_not_ready hm y hy]

/-- What the statement asks of a head that failed at the take of this node's own READY (R17, R20, R37, R42, R43). -/
theorem failed_of_ended (h : s.SendsOwnReady before e after g m rest x) (hm : s.mid) (hv : s.ownTaken = v)
    (hended : (s.ownWritten g m.tag).HeadEnded v m rest .failed c) (hlead : v.lead = s.lead)
    (hkept : ∀ k ∈ s.mc.kept, holdsCause v.mc.causes k = true) :
    v.mc.state = .held ∧ v.mc.queue = rest ∧ holdsCause v.mc.causes c = true ∧
    (∀ k ∈ s.mc.kept, holdsCause v.mc.causes k = true) ∧ v.roll.groups = (s.ownWritten g m.tag).roll.groups ∧
    v.holdsFrame (.report m.origin
      { tag := m.tag, group := some g, outcome := .failed, cause := some c, progress := 0, pulses := 0
        position := s.lead.position }) ∧
    (∀ y ∈ v.fq.entries, y.frame.isReady = false) ∧ v.peer = s.ownHeard.peer ∧ v.store = s.store ∧ v.lead = s.lead ∧
    v.out = s.out ∧ v.inp = s.inp := by
  have hstill : (s.ownWritten g m.tag).mc.state.moving = false := NodeState.not_moving_of_announced h.announced
  have hreport := hended.report
  rw [State.recordOf_of_not_moving hstill, h.group] at hreport
  obtain ⟨hstore, hpeer, hout, hinp⟩ := hended.blocks
  have hmid : v.mid := hv ▸ State.ownTaken_mid hm
  exact ⟨hended.held, hended.queue, hended.cause, hkept, hended.groups, hreport,
    hmid.isReady_false (by rw [hended.held]; nofun), hpeer, hstore, hlead, hout, hinp⟩

/-- An ARMED head is given up for the causes kept (R42, R43). -/
theorem kept_givenUp (h : s.SendsOwnReady before e after g m rest x) (hm : s.mid) {k : Cause} {later : List Cause}
    (hc : ¬∀ r ∈ x.roll, r.addr ≠ s.self → r.tag = some m.tag)
    (hmis : ¬∃ r ∈ x.roll, r.addr ≠ s.self ∧ ∃ y ∈ r.tag, y ≠ m.tag) (hk : s.mc.kept = k :: later) :
    (s.readyLeft g m.tag).GivenUp ((s.readyLeft g m.tag).decideKept s.mc.kept).finish m rest k later := by
  have hmid := h.readyLeft_mid hm
  have hopen := h.readyLeft_of_open hc hmis
  have hs : (s.readyLeft g m.tag).mc.state = .armed := by rw [hopen]; rfl
  have hdecide : (s.readyLeft g m.tag).decideKept s.mc.kept = (s.readyLeft g m.tag).giveUp .failed k later := by
    simp only [State.decideKept, hs, hk]
  have ha : (s.readyLeft g m.tag).mc.state.announced = true := by rw [hs]; rfl
  rw [hdecide]
  refine (State.giveUp_givenUp ?_ (hmid.room (.inl ha)).1 ?_).finish ?_
  · rw [hopen]
    exact h.queue
  · exact hmid.lead.2.2.1 (NodeState.not_moving_of_announced ha)
  · rw [hopen]
    exact (by decide : (0 : Nat) ≠ 12)

end State.SendsOwnReady

end Sys2Proof.Machine
end

section
/-! This node's own frame taken, by its kind (R12, R18, R29 to R37, R42, R43, R52, R86, R96, R118, R153 to R156). -/

-- One proof after another: elaborated side by side they need more threads than the check allows.
set_option deprecated.oldSectionVars true

namespace Sys2Proof.Machine

/-! ## The head that fails at the take of its READY -/

namespace State.SendsOwnReady

variable {s : State} {before after : List Entry} {e : Entry} {g : GroupNo} {m : Move} {rest : List Move} {x : GroupEntry}

/-- The end of a head given up for the causes kept, told from the state with this node's entry written (R42, R43). -/
theorem kept_ended (h : s.SendsOwnReady before e after g m rest x) (hm : s.mid) {k : Cause} {later : List Cause}
    (hc : ¬∀ r ∈ x.roll, r.addr ≠ s.self → r.tag = some m.tag)
    (hmis : ¬∃ r ∈ x.roll, r.addr ≠ s.self ∧ ∃ y ∈ r.tag, y ≠ m.tag) (hk : s.mc.kept = k :: later) :
    (s.ownWritten g m.tag).HeadEnded ((s.readyLeft g m.tag).decideKept s.mc.kept).finish m rest .failed k := by
  have hopen := h.readyLeft_of_open hc hmis
  have harmed : (s.readyLeft g m.tag).mc.state.moving = false := by rw [hopen]; rfl
  have hstill : (s.ownWritten g m.tag).mc.state.moving = false := NodeState.not_moving_of_announced h.announced
  refine (h.kept_givenUp hm hc hmis hk).ended.rebase ?_ ?_ ?_ ?_
  · rw [State.recordOf_of_not_moving harmed, State.recordOf_of_not_moving hstill, hopen]
    rfl
  · rw [hopen]
    rfl
  · rw [hopen]
    exact ⟨rfl, rfl, rfl, rfl⟩
  · rw [hopen]
    rfl

/-- The READY has left the SYNC share, so the WITHDRAW of the head given up for the causes kept fits there (R21, R42). -/
theorem kept_withdraw (h : s.SendsOwnReady before e after g m rest x) (hok : s.ok) {k : Cause} {later : List Cause}
    (hc : ¬∀ r ∈ x.roll, r.addr ≠ s.self → r.tag = some m.tag)
    (hmis : ¬∃ r ∈ x.roll, r.addr ≠ s.self ∧ ∃ y ∈ r.tag, y ≠ m.tag) (hk : s.mc.kept = k :: later) :
    (((s.readyLeft g m.tag).decideKept s.mc.kept).finish).holdsFrame (.withdraw g m.tag k) := by
  have hwithdrew : k ≠ .peerWithdrew := fun heq => by simpa [hk, heq] using hok.causes.2.2.2 k (by simp [hk])
  refine (h.kept_givenUp hok.mid hc hmis hk).withdraw g h.group hwithdrew ?_
  have hfq : (s.readyLeft g m.tag).fq = (s.ownLeft before after).fq := by rw [h.readyLeft_of_open hc hmis]; rfl
  have hleft := State.ownLeft_count h.sends .sync
  have hshare : s.fq.count .sync ≤ 6 := hok.shares.1 .sync
  rw [if_pos h.cls] at hleft
  refine (FrameQueue.count_removeQueued_le _ _ _).trans_lt ?_
  rw [hfq]
  omega

/-- A mismatch at the take of this node's own READY fails the head while the READY still counts in the SYNC share, and every
kept cause joins the hold-cause set (R21, R37, R43, R155). -/
theorem mismatch_ended (h : s.SendsOwnReady before e after g m rest x) (hm : s.mid)
    (hmis : ∃ r ∈ x.roll, r.addr ≠ s.self ∧ ∃ y ∈ r.tag, y ≠ m.tag) :
    let v := ((s.readyLeft g m.tag).decideKept s.mc.kept).finish
    (s.ownWritten g m.tag).HeadEnded v m rest .failed .tagMismatch ∧ v.lead = s.lead ∧
    (∀ k ∈ s.mc.kept, holdsCause v.mc.causes k = true) ∧
    (s.fq.count .sync < 6 → v.holdsFrame (.withdraw g m.tag .tagMismatch)) ∧
    (s.fq.count .sync = 6 → holdsCause v.mc.causes .link = true) := by
  intro v
  let w := s.ownWritten g m.tag
  let u := w.giveUp .failed .tagMismatch []
  have hwm : w.mid := ownWritten_mid hm
  have hgiven : w.GivenUp u m rest .tagMismatch [] :=
    State.giveUp_givenUp h.queue (hwm.room (.inl h.announced)).1
      (hwm.lead.2.2.1 (NodeState.not_moving_of_announced h.announced))
  have hleft : s.readyLeft g m.tag = u.updFq FrameQueue.endSending := h.readyLeft_of_mismatch hmis
  have hstate : (s.readyLeft g m.tag).mc.state = .held := by rw [hleft]; exact hgiven.ended.held
  have hv : v = ((u.updFq FrameQueue.endSending).addCauses s.mc.kept).finish := by
    rw [← hleft]
    refine congrArg State.finish ?_
    simp only [State.decideKept, hstate]
  have hready : w.fq.removeQueued OutFrame.isReady = s.fq := h.removeReady hm
  have hsends : u.fq.inFlight = [e] := by
    have hkeeps : w.removeReady.fq.KeepsReadies u.fq := w.removeReady.retire_keepsReadies .failed (some .tagMismatch)
    refine hkeeps.flight.trans ?_
    rw [show w.removeReady.fq = s.fq from hready, h.inFlight hm]
  have hended := (hgiven.ended.endSending hsends h.isReady).addCauses (ks := s.mc.kept)
  rw [hv]
  refine ⟨hended.finish, ?_, fun k hk => ?_, fun hroom => ?_, fun hfull => ?_⟩
  · rw [(State.finish_frame_of_held hended.held).2.2.2.2.1]
    have hlead : u.lead = s.lead := hgiven.lead
    simpa using hlead
  · exact (State.finish_frame_of_held hended.held).2.2.2.2.2.2 k ((u.updFq _).holdsCause_addCauses.2 k hk)
  · refine State.finish_holdsFrame_of_held hended.held (by simp [OutFrame.cls]) ?_
    rw [State.holdsFrame, (State.addCauses_frame _ _).2.1]
    refine State.holdsFrame_endSending hsends (by simp [h.frame]) ?_
    exact hgiven.withdraw g h.group nofun (by rwa [hready])
  · refine State.finish_holds_link hended.held ?_
    have hdue : u.mc.linkDue = true := by
      refine State.linkDue_retire (s := w.removeReady) h.queue h.group nofun ?_
      rw [show w.removeReady.fq = s.fq from hready, hfull]
    simpa using hdue

/-! ## The head that starts -/

theorem readyLeft_not_sending (s : State) (g : GroupNo) (t : Tag) : (s.readyLeft g t).fq.sending = none := by
  rw [FrameQueue.sending_eq_head?, State.readyLeft, State.updFq_fq, FrameQueue.inFlight_endSending]
  rfl

/-- A head stopped at the instant of its start has made no progress (R17, R66). -/
theorem recordOf_of_complete (h : s.SendsOwnReady before e after g m rest x)
    (hc : ∀ r ∈ x.roll, r.addr ≠ s.self → r.tag = some m.tag) (c : Cause) :
    (s.readyLeft g m.tag).recordOf m .halted (some c) =
      { tag := m.tag, group := some g, outcome := .halted, cause := some c, progress := 0, pulses := 0
        position := s.lead.position } := by
  rw [h.readyLeft_of_complete hc, ← h.group]
  rfl

/-- A limit, a drive alarm or a stop input kept stops the move at its start, and its group is told NOW (R42). -/
theorem kept_stop (h : s.SendsOwnReady before e after g m rest x) (hm : s.mid) {k : Cause} {later : List Cause}
    (hc : ∀ r ∈ x.roll, r.addr ≠ s.self → r.tag = some m.tag)
    (hkept : (s.mc.kept.filter fun x => decide (x ≠ .rollTimeout)) = k :: later)
    (hk : k ∈ [Cause.limitActive, .driveAlarm, .stopInput]) :
    let cause := if k = .limitActive then Cause.limit else k
    let v := ((s.readyLeft g m.tag).decideKept s.mc.kept).finish
    (s.readyLeft g m.tag).HeadEnded v m rest .halted cause ∧ (∀ y ∈ later, holdsCause v.mc.causes y = true) ∧
      s.Told v g { kind := .now, cause := cause, tag := m.tag } := by
  intro cause v
  have hstarts := h.readyLeft_of_complete hc
  have hruns : (s.readyLeft g m.tag).mc.state = .running := by rw [hstarts]; rfl
  have hmoving : (s.readyLeft g m.tag).mc.state.moving = true := by rw [hruns]; rfl
  have hqueue : (s.readyLeft g m.tag).mc.queue = m :: rest := by rw [hstarts]; exact h.queue
  have hnotices : (s.readyLeft g m.tag).noticeFor g = s.noticeFor g := State.noticeFor_congr (by rw [hstarts]; rfl) g
  have hv : v = (((s.readyLeft g m.tag).stopMove cause false).addCauses later).finish :=
    congrArg State.finish (State.decideKept_of_stops hruns hkept hk)
  have hstop := State.stopMove_addCauses_finish (h.readyLeft_mid hm) hmoving hqueue h.group (readyLeft_not_sending s g m.tag)
    cause later
  rw [hv]
  simpa only [State.Told, hnotices] using hstop

end State.SendsOwnReady

/-! ## The obligation -/

/-- The READYs are of the SYNC share only (R150). -/
theorem FrameQueue.count_without_readies (q : FrameQueue) {k : FrameClass} (hk : k ≠ .sync) :
    ({ q with entries := q.entries.filter fun y => !y.frame.isReady } : FrameQueue).count k = q.count k := by
  refine List.countP_filter.trans (List.countP_congr fun y _ => ?_)
  simp only [Bool.and_eq_true, decide_eq_true_eq, Bool.not_eq_true', and_iff_left_iff_imp]
  exact fun hy => Bool.eq_false_iff.mpr fun hr => hk (hy.symm.trans (OutFrame.isReady_cls hr))

/-- Settles O19: the entry leaves, and the block that queued the frame acts by its kind; a READY is judged in the order of
R29, and then the causes kept are decided on. -/
theorem ownFrameTakenLeavesTheQueue : Obligations.OwnFrameTakenLeavesTheQueue := by
  intro s before after e hset hq hst ho
  have h : s.fq.Sends before e after := ⟨hq, hst, ho⟩
  refine ⟨fun hr hc => congrArg Host.Outcome.next (State.ownTaken_slotOver h.sending hr hc), fun hr => ?_⟩
  intro t
  have hsends {g : GroupNo} {m : Move} {rest : List Move} {x : GroupEntry} (hf : e.frame = .ready g m.tag)
      (hs : s.mc.state = .announcing) (hmq : s.mc.queue = m :: rest) (hg : m.group = some g)
      (hx : s.groupEntry g = some x) (hm : s.self ∈ x.members) : s.SendsOwnReady before e after g m rest x :=
    ⟨h, hf, hs, hmq, hg, hx, hm⟩
  refine ⟨fun hc => congrArg _ (State.ownTaken_beacon h hset hr hc), fun hc hle => ?_, fun g x c hf hn => ?_,
    fun g x c entry hf hx hm => ?_, fun x n o hf => ?_, fun g k c tag n hf hn => ?_, ?_, ?_⟩
  · have hexec : exec .ownFrameTaken s = .next t.entryFreed.finish := congrArg _ (State.ownTaken_reply h hr hc hle)
    exact ⟨hexec, fun hw hp => hexec.trans (congrArg _ (State.ownTaken_reply_of_no_record h hset hc hw hp))⟩
  · exact congrArg _ (State.ownTaken_withdraw h hset hr hf (roll := s.roll)
      (State.withdrawTake_of_ignored (s := s.ownHeard) hn x))
  · exact congrArg _ (State.ownTaken_withdraw h hset hr hf (State.withdrawTake_self (s := s.ownHeard) hx hm x))
  · refine ⟨fun hno => ?_, fun hnew hnamed => ?_⟩
    · refine congrArg _ ((State.ownTaken_mark h hr hf (gate := s.gate)
        (State.markTake_of_ignored (s := s.ownHeard) o hno)).trans ?_)
      exact State.finish_of_ownLeft h hset (by simp [hf, OutFrame.cls]) (by simp [hf, OutFrame.cls]) rfl rfl rfl rfl
    · have hexec : exec .ownFrameTaken s = .next (t.withMark s.self x n o).finish :=
        congrArg _ (State.ownTaken_mark h hr hf (State.markTake_of_named (s := s.ownHeard) o hnew hnamed))
      refine ⟨hexec, fun hp => hexec.trans (congrArg _ ?_)⟩
      exact State.finish_of_ownLeft_of_not_pending h hset (by simp [hf, OutFrame.cls]) rfl rfl hp rfl rfl
  · exact congrArg _ (State.ownTaken_halt h hset hr hf hn)
  · intro g m rest entry hf hs hmq hg hkept hx hm hnames hempty
    have hown := hsends hf hs hmq hg hx hm
    have hc : ¬∀ r ∈ entry.roll, r.addr ≠ s.self → r.tag = some m.tag := by
      obtain ⟨r, hr, hself, hnone⟩ := hempty
      exact fun hall => by simpa [hnone] using hall r hr hself
    have hmis : ¬∃ r ∈ entry.roll, r.addr ≠ s.self ∧ ∃ y ∈ r.tag, y ≠ m.tag := by
      rintro ⟨r, hr, hself, y, hy, hne⟩
      rcases hnames r hr hself with htag | htag
      · simp [htag] at hy
      · exact hne (by simpa [htag, eq_comm] using hy)
    have hdecide : (s.readyLeft g m.tag).decideKept s.mc.kept =
        ({ t with mc := { s.mc with state := .armed } } : State).updGroup g (·.write s.self (some m.tag)) := by
      have hmc : ({ s.mc with state := .armed, kept := [] } : MoveCtl) = { s.mc with state := .armed } := by
        rw [← hkept]
      rw [hown.readyLeft_of_open hc hmis, hmc, hkept]
      rfl
    refine congrArg Host.Outcome.next ((hown.ownTaken hr).trans ?_)
    rw [hdecide]
    exact State.finish_of_ownLeft_of_not_pending h hset (by simp [hown.cls]) rfl rfl nofun rfl rfl
  · intro g m rest entry hok hf hs hmq hg hx hm groups write empty complete mismatch failed
    have hown := hsends hf hs hmq hg hx hm
    have hexec : exec .ownFrameTaken s = .next ((s.readyLeft g m.tag).decideKept s.mc.kept).finish :=
      congrArg _ (hown.ownTaken hr)
    have htaken := hown.ownTaken hr
    refine ⟨fun hc hkept => ?_, fun k later hc hkept hk => ?_, fun k later hc hmis hkept => ?_, fun hmis => ?_⟩
    · have hstarts := hown.readyLeft_of_complete hc
      rw [hexec, State.decideKept_of_dropped (by rw [hstarts]; rfl) hkept, hstarts]
      refine congrArg _ (State.finish_of_ownLeft_of_not_pending h hset (by simp [hown.cls]) rfl rfl nofun rfl ?_)
      exact (s.ownLeft before after).fq.count_without_readies nofun
    · have hstarts := hown.readyLeft_of_complete hc
      obtain ⟨hended, hlater, htold⟩ := hown.kept_stop hok.mid hc hkept hk
      have hready := (State.ownTaken_mid hok.mid).isReady_false (by rw [htaken, hended.held]; nofun)
      have hreport := hown.recordOf_of_complete hc (if k = Cause.limitActive then .limit else k) ▸ hended.report
      obtain ⟨hstore, hpeer, hout, hinp⟩ := hended.blocks
      refine ⟨_, hexec, hended.held, hended.queue, hended.cause, fun x hx _ => hlater x hx,
        hended.groups.trans (by rw [hstarts]; rfl), hreport, htold.now rfl, htaken ▸ hready,
        hended.position.trans (by rw [hstarts]; rfl), hended.step, hpeer.trans (by rw [hstarts]; rfl),
        hstore.trans (by rw [hstarts]; rfl), hinp.trans (by rw [hstarts]; rfl), ?_⟩
      rw [hout, hstarts]
      rfl
    · refine ⟨_, hexec, hown.failed_of_ended hok.mid htaken (hown.kept_ended hok.mid hc hmis hkept) ?_ ?_,
        hown.kept_withdraw hok hc hmis hkept⟩
      · rw [(hown.kept_givenUp hok.mid hc hmis hkept).lead, hown.readyLeft_of_open hc hmis]
        rfl
      · obtain ⟨hended, -, hlater, -⟩ := hown.kept_givenUp hok.mid hc hmis hkept
        rw [hkept] at hended hlater ⊢
        exact List.forall_mem_cons.mpr ⟨hended.cause, hlater⟩
    · obtain ⟨hended, hlead, hkept, hwithdraw, hlink⟩ := hown.mismatch_ended hok.mid hmis
      exact ⟨_, hexec, hown.failed_of_ended hok.mid htaken hended hlead hkept, hwithdraw, hlink⟩

end Sys2Proof.Machine
end

section
/-! A step runs the command at the front of the queue of waiting commands; every command answers a next state and leaves that
queue alone (the model's own choices, notes/assumptions/3.md, 5.md and 23.md). -/

-- One proof after another: elaborated side by side they need more threads than the check allows.
set_option deprecated.oldSectionVars true

namespace Sys2Proof.Machine

/-! ## A step -/

/-- Settles O1: the queue's front is read, and the command runs on the state with the rest. -/
theorem stepRunsFrontCommand : Obligations.StepRunsFrontCommand := by
  refine ⟨fun _ _ _ => rfl, fun s hempty => ?_⟩
  rw [step, hempty]

/-- No command faults, and none is refused: each is one update of the state. -/
theorem exec_next (c : Sys2Proof.Instr) (s : State) : ∃ t, exec c s = .next t := by
  cases c <;> exact ⟨_, rfl⟩

namespace State

variable {s t : State}

/-! ## A frame taken from the bus -/

theorem takeHeld_pending (src : Addr) (own : OutFrame → Bool) {act : State → State}
    (ha : ∀ u : State, (act u).pending = u.pending) : (s.takeHeld src own act).pending = s.pending := by
  unfold takeHeld
  split
  · simp
  · split
    · split <;> simp
    · simp [ha]

theorem takeFrom_pending (src : Addr) (own : OutFrame → Bool) {act : State → State}
    (ha : ∀ u : State, (act u).pending = u.pending) : (s.takeFrom src own act).pending = s.pending :=
  (takeHeld_pending src own ha).trans (by simp)

/-- A request leaves the queue of waiting commands alone if its action and what follows its reply do. -/
theorem request_pending (src num : Nat) (k : RequestKind) {act : State → State × Reply} {after : State → State}
    (hafter : ∀ u : State, (after u).pending = u.pending) (ha : ∀ u : State, (act u).1.pending = u.pending) :
    (s.request src num k act after).pending = s.pending := by
  unfold request
  split
  · simp
  · by_cases hsrc : src = s.self
    · simp only [if_pos hsrc]
      split <;> simp
    · simp only [if_neg hsrc]
      split <;> simp [hafter, ha]

@[simp] theorem groupScaleTake_pending (g p : Nat) (s : State) : (s.groupScaleTake g p).pending = s.pending := by
  unfold groupScaleTake
  dsimp only
  split
  · split
    · split <;> simp
    · rfl
  · rfl

/-! ## The actions of the requests -/

theorem configure_pending (checks : List (Bool × NakReason)) (store : Store → Store) (s : State) :
    (s.configure checks store).1.pending = s.pending := by
  unfold configure
  split
  · rfl
  · split <;> rfl

@[simp] theorem judgeInput_pending (i : InputName) (c : Cause) (s : State) : (s.judgeInput i c).pending = s.pending := by
  unfold judgeInput
  split <;> simp

theorem commitEffect_pending (s : State) : s.commitEffect.pending = s.pending := by
  have hbuild : s.commitBuild.pending = s.pending := rfl
  unfold commitEffect judgeBlocked
  split <;> simp [hbuild]

theorem loadAct_pending (src : Addr) (f : LoadFields) (s : State) : (s.loadAct src f).1.pending = s.pending := by
  rw [loadAct_eq]
  split
  · rfl
  · rw [append_eq]

theorem flushAct_pending (s : State) : s.flushAct.1.pending = s.pending := by
  unfold flushAct
  split <;> rfl

theorem stopAnnounced_pending (s : State) : s.stopAnnounced.pending = s.pending := by
  unfold stopAnnounced
  split <;> simp

theorem stopEffect_pending (k : HaltKind) (s : State) : (s.stopEffect k).pending = s.pending := by
  unfold stopEffect
  split
  case h_4 | h_5 => exact stopAnnounced_pending s
  case h_6 | h_7 => split <;> simp
  all_goals simp

theorem stopAct_pending (k : Nat) (s : State) : (s.stopAct k).1.pending = s.pending := by
  unfold stopAct
  split
  · rfl
  · split
    · rfl
    · exact stopEffect_pending _ s

theorem resumeAct_pending (s : State) : s.resumeAct.1.pending = s.pending := by
  unfold resumeAct
  split
  · rfl
  · split <;> rfl

theorem setposAct_pending (v : Signed32) (s : State) : (s.setposAct v).1.pending = s.pending := by
  unfold setposAct
  split <;> rfl

theorem scaleAct_pending (p : Nat) (s : State) : (s.scaleAct p).1.pending = s.pending := by
  unfold scaleAct
  split
  · rfl
  · split
    · rfl
    · dsimp only
      split <;> simp

theorem doCommit_pending (src num : Nat) : (doCommit src num s).pending = s.pending := by
  refine request_pending src num .commit (fun u => by simp) fun u => ?_
  split
  · rfl
  · exact commitEffect_pending u

theorem doRestart_pending (src num : Nat) : (doRestart src num s).pending = s.pending := by
  refine request_pending src num .restart (fun u => by simp) fun u => ?_
  split <;> rfl

/-! ## The events of the node's own -/

theorem ownRejected_pending (m : SlotMarks) (s : State) : (s.ownRejected m).pending = s.pending := by
  unfold ownRejected
  split <;> simp

theorem ownBusy_pending (s : State) : s.ownBusy.pending = s.pending := by
  unfold ownBusy
  split <;> simp

theorem idle_pending (s : State) : s.idle.pending = s.pending := by
  have hleave (u : State) : u.leaveOffline.pending = u.pending := by
    unfold leaveOffline
    split <;> simp
  unfold idle
  split
  · rfl
  · simp [hleave]

theorem dominantBit_pending (s : State) : s.dominantBit.pending = s.pending := by
  unfold dominantBit
  split
  · rfl
  · split <;> rfl

@[simp] theorem stepLine_pending (m : Move) (s : State) : (s.stepLine m).pending = s.pending := by
  unfold stepLine
  split <;> rfl

@[simp] theorem afterStep_pending (m : Move) (s : State) : (s.afterStep m).pending = s.pending := by
  unfold afterStep
  split
  · unfold leadEnds
    split <;> simp
  · split
    · simp
    · rfl

theorem leadStep_pending (s : State) : s.leadStep.pending = s.pending := by
  unfold leadStep
  split
  · simp
  · rfl

theorem rollExpires_pending (s : State) : s.rollExpires.pending = s.pending := by
  unfold rollExpires
  split
  · rfl
  · dsimp only
    split <;> simp

theorem gateExpires_pending (s : State) : s.gateExpires.pending = s.pending := by
  unfold gateExpires
  split
  · rfl
  · dsimp only
    split <;> simp

theorem silenceExpires_pending (p : Addr) (s : State) : (s.silenceExpires p).pending = s.pending := by
  unfold silenceExpires
  split
  · rfl
  · split
    · rfl
    · simp

theorem beaconExpires_pending (s : State) : s.beaconExpires.pending = s.pending := by
  have hqueue (u : State) : u.queueBeacon.pending = u.pending := by
    unfold queueBeacon
    split <;> simp
  unfold beaconExpires
  split
  · rfl
  · simp [hqueue]

theorem listenExpires_pending (s : State) : s.listenExpires.pending = s.pending := by
  unfold listenExpires
  split
  · rfl
  · simp

theorem assertion_pending (i : InputName) {deliver : State → State} (hd : ∀ u : State, (deliver u).pending = u.pending) :
    (s.assertion i deliver).pending = s.pending := by
  unfold assertion
  split
  · rfl
  · split <;> simp [hd]

theorem limitDelivered_pending (side : LimitSide) (s : State) : (s.limitDelivered side).pending = s.pending := by
  unfold limitDelivered
  split
  · split
    · split
      · simp
      · split <;> simp
    · rfl
  · rfl

theorem localStop_pending (c : Cause) (s : State) : (s.localStop c).pending = s.pending := by
  unfold localStop
  split <;> simp

theorem driveStop_pending (c : Cause) (s : State) : (s.driveStop c).pending = s.pending := by
  unfold driveStop
  split
  · rfl
  · simp [localStop_pending]

theorem homeDelivered_pending (s : State) : s.homeDelivered.pending = s.pending := by
  unfold homeDelivered
  split
  · split <;> simp
  · rfl

theorem inactive_pending (i : InputName) (s : State) : (s.inactive i).pending = s.pending := by
  unfold inactive
  split <;> simp

theorem lineChange_pending (i : InputName) (l : Level) (s : State) : (s.lineChange i l).pending = s.pending := by
  unfold lineChange
  split <;> rfl

/-! ## Every command -/

/-- A request with which a record is stored (R123). -/
theorem config_pending (src num : Nat) (checks : State → List (Bool × NakReason)) (store : Store → Store) :
    (s.request src num .config (fun s => s.configure (checks s) store) offer).pending = s.pending :=
  request_pending src num .config (by simp) fun u => u.configure_pending _ _

/-- Every command but those that are told with a frame's bits leaves the queue of waiting commands alone. -/
theorem exec_pending_of_not_bits {c : Sys2Proof.Instr} (hb : readsBits c = false) (he : exec c s = .next t) :
    t.pending = s.pending := by
  cases c <;> cases he
  case configGroup | configProfile | configProfileTablePart | configLimits | configTiming | configInputs =>
    exact config_pending _ _ (fun _ => _) _
  case commit => exact doCommit_pending _ _
  case restart => exact doRestart_pending _ _
  case load => exact request_pending _ _ _ (by simp) (loadAct_pending _ _)
  case flush => exact request_pending _ _ _ (by simp) flushAct_pending
  case stop => exact request_pending _ _ _ (by simp) (stopAct_pending _)
  case resume => exact request_pending _ _ _ (by simp) resumeAct_pending
  case setpos => exact request_pending _ _ _ (by simp) (setposAct_pending _)
  case scale => exact request_pending _ _ _ (by simp) (scaleAct_pending _)
  case queryNode => exact request_pending _ _ _ (by simp) fun _ => rfl
  case queryGroup => exact request_pending _ _ _ (by simp) fun u => by rw [u.queryGroupAct_fst]
  case queryQueue => exact request_pending _ _ _ (by simp) fun u => by rw [u.queryQueueAct_fst]
  case readyTaken | withdrawTaken | haltTaken | markTaken | groupScaleTaken | beaconTaken | replyFrameTaken =>
    exact takeFrom_pending _ _ (by simp)
  case malformedFrameTaken | frameRejectedInSlot => cases hb
  case ownFrameTaken => exact s.ownTaken_frame.2.2.1
  case lostInArbitration => simp
  case rejected | discarded => exact ownRejected_pending _ s
  case refusedAsBusy | dropped => exact ownBusy_pending s
  case busIdle => exact idle_pending s
  case leadStep => exact (leadStep_pending _).trans (by simp)
  case rollTimeout => exact (rollExpires_pending _).trans (by simp)
  case gateWaitTimerExpires => exact (gateExpires_pending _).trans (by simp)
  case silenceTimerExpires => exact (silenceExpires_pending _ _).trans (by simp)
  case beaconTimerExpires => exact beaconExpires_pending s
  case listenTimerExpires => exact listenExpires_pending s
  case limitAsserted => exact (assertion_pending _ (limitDelivered_pending _)).trans (by simp)
  case dalmAsserted | stopinAsserted => exact (assertion_pending _ (driveStop_pending _)).trans (by simp)
  case homeAsserted => exact (assertion_pending _ homeDelivered_pending).trans (by simp)
  case inputChangeInactive => exact inactive_pending _ s
  case resetAsserted | powerOn => rfl
  case lineLevelChange => exact lineChange_pending _ _ s
  case dominantBitOutsideFrame => exact dominantBit_pending s

/-! ## A frame read from the bus -/

@[simp] theorem malformed_pending (r : Sys2Proof.RawFrame) (s : State) : (s.malformed r).pending = s.pending := by
  unfold malformed
  dsimp only
  split <;> simp

@[simp] theorem takeReading_pending (r : Sys2Proof.RawFrame) (s : State) : (s.takeReading r).pending = s.pending := by
  rcases s.takeReading_cases r with he | he | ⟨src, num, he⟩ | ⟨src, num, he⟩ | ⟨i, hi, he⟩
  · rw [he]
  · rw [he]
    exact takeHeld_pending _ _ (by simp)
  · rw [he]
    exact config_pending _ _ (fun _ => _) _
  · rw [he]
    exact request_pending _ _ _ (by simp) fun _ => rfl
  · exact exec_pending_of_not_bits hi he

/-- A frame that does not bear this node's address is judged after the loss of an attempt of this node (R138). -/
theorem attemptLost_unless_own_pending (own : Bool) (s : State) : (if own then s else s.attemptLost).pending = s.pending := by
  cases own <;> simp

theorem receive_pending (r : Sys2Proof.RawFrame) (s : State) : (s.receive r).pending = s.pending := by
  have hread (u : State) (own : Bool) :
      (if u.slotMark r = SlotMarks.none then u.takeReading r else u.slotRejects own (u.slotMark r)).pending = u.pending := by
    split <;> simp
  unfold receive
  split
  · simp
  · split
    · simp
    · exact (hread _ _).trans (attemptLost_unless_own_pending _ s)

theorem rejectedInSlot_pending (r : Sys2Proof.RawFrame) (s : State) : (s.rejectedInSlot r).pending = s.pending := by
  unfold rejectedInSlot
  split
  · simp
  · simp only [slotRejects_frame, attemptLost_unless_own_pending]

/-- Every command leaves the queue of waiting commands alone. -/
theorem exec_pending {c : Sys2Proof.Instr} (he : exec c s = .next t) : t.pending = s.pending := by
  cases hb : readsBits c with
  | false => exact exec_pending_of_not_bits hb he
  | true =>
    cases c
    case malformedFrameTaken r =>
      cases he
      exact receive_pending r s
    case frameRejectedInSlot r =>
      cases he
      exact rejectedInSlot_pending r s
    all_goals cases hb

end State

/-- Settles O2: each command is one update of the state, and no operation that an update is made of touches the queue. -/
theorem everyCommandAnswersAndKeepsTheQueue : Obligations.EveryCommandAnswersAndKeepsTheQueue := fun c s =>
  (exec_next c s).imp fun _ he => ⟨he, State.exec_pending he⟩

end Sys2Proof.Machine
end
